-- ==== Sys2Proof/Word.lean ====
section
/-! DEFINITION. The two word types of the rust-8080 CORE (00_scope.md R4: `XLEN` = 8, `ALEN` = 16; R6: every value is an
unsigned integer of a stated width and arithmetic wraps). -/

namespace Sys2Proof

/-- An 8-bit value: a register, a memory byte, an immediate, a port number (00_scope.md R4, R6). -/
abbrev Byte := BitVec 8

/-- A 16-bit value: `pc`, `sp`, a register pair, a memory address (00_scope.md R4, R6). -/
abbrev Word := BitVec 16

end Sys2Proof
end

