-- ==== Sys2Proof/Machine/Bytes.lean ====
section
/-! DEFINITION. Byte-order and bit-field helpers (00_scope.md R5, 20_memory.md R51). -/

namespace Sys2Proof

/-- `hi(v)` = `v[15:8]` (00_scope.md R5). -/
def hi (v : Word) : Byte := v.extractLsb' 8 8

/-- `lo(v)` = `v[7:0]` (00_scope.md R5). -/
def lo (v : Word) : Byte := v.extractLsb' 0 8

/-- `{h, l}` = `h * 256 + l`: the first byte is the more significant (00_scope.md R5). -/
def cat (h l : Byte) : Word := h ++ l

/-- Byte `k` of a number, byte 0 the least significant. -/
def byteOf (w k : Nat) : Byte := BitVec.ofNat 8 (w / 256 ^ k)

end Sys2Proof
end

