-- ==== Sys2Proof/Syntax.lean ====
section
/-! DEFINITION. The instruction set as data: operand kinds (30_encoding.md R74 to R77) and `Instr`, one constructor per row
of spec/opcode_table.json: the rows with operand bytes (R71 formats F2 and F3) first, then the one-byte rows, each in the table's
order (Lean's compiler allows operands only in an inductive's first constructors). Assembler forms are R87; there are no pseudo-instructions (R88). -/

namespace Sys2Proof

/-- The seven 8-bit registers (10_state.md R20). Register code 6 is the memory operand `M`, not a register (R22). -/
inductive Reg where
  | b | c | d | e | h | l | a
  deriving DecidableEq, Repr

/-- An 8-bit operand selected by a 3-bit code: a register, or `M` = `mem[HL]` for code 6 (30_encoding.md R74). -/
inductive Operand where
  | reg (r : Reg)
  | m
  deriving DecidableEq, Repr

/-- The second operand of an 8-bit ALU instruction: `r`, `M` or `d8` (30_encoding.md R77, R78). -/
inductive AluSrc where
  | reg (r : Reg)
  | m
  | imm (d8 : Byte)
  deriving DecidableEq, Repr

/-- The eight 8-bit ALU operations in the order of their codes (30_encoding.md R77). -/
inductive AluOp where
  | add | adc | sub | sbb | ana | xra | ora | cmp
  deriving DecidableEq, Repr

/-- The pair operand of LXI, INX, DCX, DAD: code 3 is `sp` (30_encoding.md R75). -/
inductive Pair where
  | bc | de | hl | sp
  deriving DecidableEq, Repr

/-- The pair operand of STAX and LDAX (30_encoding.md R75: `BC` or `DE` only). -/
inductive IndexPair where
  | bc | de
  deriving DecidableEq, Repr

/-- The pair operand of PUSH and POP (30_encoding.md R75; code 3, PSW, is an instruction of its own here). -/
inductive StackPair where
  | bc | de | hl
  deriving DecidableEq, Repr

/-- The eight conditions in the order of their codes (30_encoding.md R76). -/
inductive Cond where
  | nz | z | nc | c | po | pe | p | m
  deriving DecidableEq, Repr

/-- The twelve unassigned opcode bytes, each named by its value (30_encoding.md R83). -/
inductive Slot where
  | s08 | s10 | s18 | s20 | s28 | s30 | s38 | sCB | sD9 | sDD | sED | sFD
  deriving DecidableEq, Repr

/-- The instructions. The comment beside a constructor gives its opcode byte, its mnemonic and its rule in spec/opcode_table.json. -/
inductive Instr where
  | lxiB (d16 : Word)  -- 01 LXI_B_d16 R185
  | mviB (d8 : Byte)  -- 06 MVI_B_d8 R183
  | mviC (d8 : Byte)  -- 0E MVI_C_d8 R183
  | lxiD (d16 : Word)  -- 11 LXI_D_d16 R185
  | mviD (d8 : Byte)  -- 16 MVI_D_d8 R183
  | mviE (d8 : Byte)  -- 1E MVI_E_d8 R183
  | lxiH (d16 : Word)  -- 21 LXI_H_d16 R185
  | shld (adr : Word)  -- 22 SHLD_adr R190
  | mviH (d8 : Byte)  -- 26 MVI_H_d8 R183
  | lhld (adr : Word)  -- 2A LHLD_adr R191
  | mviL (d8 : Byte)  -- 2E MVI_L_d8 R183
  | lxiSp (d16 : Word)  -- 31 LXI_SP_d16 R185
  | sta (adr : Word)  -- 32 STA_adr R187
  | mviM (d8 : Byte)  -- 36 MVI_M_d8 R184
  | lda (adr : Word)  -- 3A LDA_adr R186
  | mviA (d8 : Byte)  -- 3E MVI_A_d8 R183
  | jnz (adr : Word)  -- C2 JNZ_adr R211
  | jmp (adr : Word)  -- C3 JMP_adr R210
  | cnz (adr : Word)  -- C4 CNZ_adr R220
  | adi (d8 : Byte)  -- C6 ADI_d8 R136
  | jz (adr : Word)  -- CA JZ_adr R212
  | cz (adr : Word)  -- CC CZ_adr R221
  | call (adr : Word)  -- CD CALL_adr R219
  | aci (d8 : Byte)  -- CE ACI_d8 R137
  | jnc (adr : Word)  -- D2 JNC_adr R213
  | outPort (d8 : Byte)  -- D3 OUT_d8 R271
  | cnc (adr : Word)  -- D4 CNC_adr R222
  | sui (d8 : Byte)  -- D6 SUI_d8 R138
  | jc (adr : Word)  -- DA JC_adr R214
  | inPort (d8 : Byte)  -- DB IN_d8 R270
  | cc (adr : Word)  -- DC CC_adr R223
  | sbi (d8 : Byte)  -- DE SBI_d8 R139
  | jpo (adr : Word)  -- E2 JPO_adr R215
  | cpo (adr : Word)  -- E4 CPO_adr R224
  | ani (d8 : Byte)  -- E6 ANI_d8 R140
  | jpe (adr : Word)  -- EA JPE_adr R216
  | cpe (adr : Word)  -- EC CPE_adr R225
  | xri (d8 : Byte)  -- EE XRI_d8 R141
  | jp (adr : Word)  -- F2 JP_adr R217
  | cp (adr : Word)  -- F4 CP_adr R226
  | ori (d8 : Byte)  -- F6 ORI_d8 R142
  | jm (adr : Word)  -- FA JM_adr R218
  | cm (adr : Word)  -- FC CM_adr R227
  | cpi (d8 : Byte)  -- FE CPI_d8 R143
  | nop  -- 00 NOP R265
  | staxB  -- 02 STAX_B R189
  | inxB  -- 03 INX_B R160
  | inrB  -- 04 INR_B R144
  | dcrB  -- 05 DCR_B R146
  | rlc  -- 07 RLC R163
  | nop08  -- 08 *NOP R266
  | dadB  -- 09 DAD_B R162
  | ldaxB  -- 0A LDAX_B R188
  | dcxB  -- 0B DCX_B R161
  | inrC  -- 0C INR_C R144
  | dcrC  -- 0D DCR_C R146
  | rrc  -- 0F RRC R164
  | nop10  -- 10 *NOP R266
  | staxD  -- 12 STAX_D R189
  | inxD  -- 13 INX_D R160
  | inrD  -- 14 INR_D R144
  | dcrD  -- 15 DCR_D R146
  | ral  -- 17 RAL R165
  | nop18  -- 18 *NOP R266
  | dadD  -- 19 DAD_D R162
  | ldaxD  -- 1A LDAX_D R188
  | dcxD  -- 1B DCX_D R161
  | inrE  -- 1C INR_E R144
  | dcrE  -- 1D DCR_E R146
  | rar  -- 1F RAR R166
  | nop20  -- 20 *NOP R266
  | inxH  -- 23 INX_H R160
  | inrH  -- 24 INR_H R144
  | dcrH  -- 25 DCR_H R146
  | daa  -- 27 DAA R148
  | nop28  -- 28 *NOP R266
  | dadH  -- 29 DAD_H R162
  | dcxH  -- 2B DCX_H R161
  | inrL  -- 2C INR_L R144
  | dcrL  -- 2D DCR_L R146
  | cma  -- 2F CMA R167
  | nop30  -- 30 *NOP R266
  | inxSp  -- 33 INX_SP R160
  | inrM  -- 34 INR_M R145
  | dcrM  -- 35 DCR_M R147
  | stc  -- 37 STC R169
  | nop38  -- 38 *NOP R266
  | dadSp  -- 39 DAD_SP R162
  | dcxSp  -- 3B DCX_SP R161
  | inrA  -- 3C INR_A R144
  | dcrA  -- 3D DCR_A R146
  | cmc  -- 3F CMC R168
  | movBB  -- 40 MOV_B_B R180
  | movBC  -- 41 MOV_B_C R180
  | movBD  -- 42 MOV_B_D R180
  | movBE  -- 43 MOV_B_E R180
  | movBH  -- 44 MOV_B_H R180
  | movBL  -- 45 MOV_B_L R180
  | movBM  -- 46 MOV_B_M R181
  | movBA  -- 47 MOV_B_A R180
  | movCB  -- 48 MOV_C_B R180
  | movCC  -- 49 MOV_C_C R180
  | movCD  -- 4A MOV_C_D R180
  | movCE  -- 4B MOV_C_E R180
  | movCH  -- 4C MOV_C_H R180
  | movCL  -- 4D MOV_C_L R180
  | movCM  -- 4E MOV_C_M R181
  | movCA  -- 4F MOV_C_A R180
  | movDB  -- 50 MOV_D_B R180
  | movDC  -- 51 MOV_D_C R180
  | movDD  -- 52 MOV_D_D R180
  | movDE  -- 53 MOV_D_E R180
  | movDH  -- 54 MOV_D_H R180
  | movDL  -- 55 MOV_D_L R180
  | movDM  -- 56 MOV_D_M R181
  | movDA  -- 57 MOV_D_A R180
  | movEB  -- 58 MOV_E_B R180
  | movEC  -- 59 MOV_E_C R180
  | movED  -- 5A MOV_E_D R180
  | movEE  -- 5B MOV_E_E R180
  | movEH  -- 5C MOV_E_H R180
  | movEL  -- 5D MOV_E_L R180
  | movEM  -- 5E MOV_E_M R181
  | movEA  -- 5F MOV_E_A R180
  | movHB  -- 60 MOV_H_B R180
  | movHC  -- 61 MOV_H_C R180
  | movHD  -- 62 MOV_H_D R180
  | movHE  -- 63 MOV_H_E R180
  | movHH  -- 64 MOV_H_H R180
  | movHL  -- 65 MOV_H_L R180
  | movHM  -- 66 MOV_H_M R181
  | movHA  -- 67 MOV_H_A R180
  | movLB  -- 68 MOV_L_B R180
  | movLC  -- 69 MOV_L_C R180
  | movLD  -- 6A MOV_L_D R180
  | movLE  -- 6B MOV_L_E R180
  | movLH  -- 6C MOV_L_H R180
  | movLL  -- 6D MOV_L_L R180
  | movLM  -- 6E MOV_L_M R181
  | movLA  -- 6F MOV_L_A R180
  | movMB  -- 70 MOV_M_B R182
  | movMC  -- 71 MOV_M_C R182
  | movMD  -- 72 MOV_M_D R182
  | movME  -- 73 MOV_M_E R182
  | movMH  -- 74 MOV_M_H R182
  | movML  -- 75 MOV_M_L R182
  | hlt  -- 76 HLT R240
  | movMA  -- 77 MOV_M_A R182
  | movAB  -- 78 MOV_A_B R180
  | movAC  -- 79 MOV_A_C R180
  | movAD  -- 7A MOV_A_D R180
  | movAE  -- 7B MOV_A_E R180
  | movAH  -- 7C MOV_A_H R180
  | movAL  -- 7D MOV_A_L R180
  | movAM  -- 7E MOV_A_M R181
  | movAA  -- 7F MOV_A_A R180
  | addB  -- 80 ADD_B R120
  | addC  -- 81 ADD_C R120
  | addD  -- 82 ADD_D R120
  | addE  -- 83 ADD_E R120
  | addH  -- 84 ADD_H R120
  | addL  -- 85 ADD_L R120
  | addM  -- 86 ADD_M R121
  | addA  -- 87 ADD_A R120
  | adcB  -- 88 ADC_B R122
  | adcC  -- 89 ADC_C R122
  | adcD  -- 8A ADC_D R122
  | adcE  -- 8B ADC_E R122
  | adcH  -- 8C ADC_H R122
  | adcL  -- 8D ADC_L R122
  | adcM  -- 8E ADC_M R123
  | adcA  -- 8F ADC_A R122
  | subB  -- 90 SUB_B R124
  | subC  -- 91 SUB_C R124
  | subD  -- 92 SUB_D R124
  | subE  -- 93 SUB_E R124
  | subH  -- 94 SUB_H R124
  | subL  -- 95 SUB_L R124
  | subM  -- 96 SUB_M R125
  | subA  -- 97 SUB_A R124
  | sbbB  -- 98 SBB_B R126
  | sbbC  -- 99 SBB_C R126
  | sbbD  -- 9A SBB_D R126
  | sbbE  -- 9B SBB_E R126
  | sbbH  -- 9C SBB_H R126
  | sbbL  -- 9D SBB_L R126
  | sbbM  -- 9E SBB_M R127
  | sbbA  -- 9F SBB_A R126
  | anaB  -- A0 ANA_B R128
  | anaC  -- A1 ANA_C R128
  | anaD  -- A2 ANA_D R128
  | anaE  -- A3 ANA_E R128
  | anaH  -- A4 ANA_H R128
  | anaL  -- A5 ANA_L R128
  | anaM  -- A6 ANA_M R129
  | anaA  -- A7 ANA_A R128
  | xraB  -- A8 XRA_B R130
  | xraC  -- A9 XRA_C R130
  | xraD  -- AA XRA_D R130
  | xraE  -- AB XRA_E R130
  | xraH  -- AC XRA_H R130
  | xraL  -- AD XRA_L R130
  | xraM  -- AE XRA_M R131
  | xraA  -- AF XRA_A R130
  | oraB  -- B0 ORA_B R132
  | oraC  -- B1 ORA_C R132
  | oraD  -- B2 ORA_D R132
  | oraE  -- B3 ORA_E R132
  | oraH  -- B4 ORA_H R132
  | oraL  -- B5 ORA_L R132
  | oraM  -- B6 ORA_M R133
  | oraA  -- B7 ORA_A R132
  | cmpB  -- B8 CMP_B R134
  | cmpC  -- B9 CMP_C R134
  | cmpD  -- BA CMP_D R134
  | cmpE  -- BB CMP_E R134
  | cmpH  -- BC CMP_H R134
  | cmpL  -- BD CMP_L R134
  | cmpM  -- BE CMP_M R135
  | cmpA  -- BF CMP_A R134
  | rnz  -- C0 RNZ R229
  | popB  -- C1 POP_B R251
  | pushB  -- C5 PUSH_B R250
  | rst0  -- C7 RST_0 R237
  | rz  -- C8 RZ R230
  | ret  -- C9 RET R228
  | nopCB  -- CB *NOP R266
  | rst1  -- CF RST_1 R237
  | rnc  -- D0 RNC R231
  | popD  -- D1 POP_D R251
  | pushD  -- D5 PUSH_D R250
  | rst2  -- D7 RST_2 R237
  | rc  -- D8 RC R232
  | nopD9  -- D9 *NOP R266
  | nopDD  -- DD *NOP R266
  | rst3  -- DF RST_3 R237
  | rpo  -- E0 RPO R233
  | popH  -- E1 POP_H R251
  | xthl  -- E3 XTHL R254
  | pushH  -- E5 PUSH_H R250
  | rst4  -- E7 RST_4 R237
  | rpe  -- E8 RPE R234
  | pchl  -- E9 PCHL R238
  | xchg  -- EB XCHG R192
  | nopED  -- ED *NOP R266
  | rst5  -- EF RST_5 R237
  | rp  -- F0 RP R235
  | popPsw  -- F1 POP_PSW R253
  | di  -- F3 DI R273
  | pushPsw  -- F5 PUSH_PSW R252
  | rst6  -- F7 RST_6 R237
  | rm  -- F8 RM R236
  | sphl  -- F9 SPHL R239
  | ei  -- FB EI R272
  | nopFD  -- FD *NOP R266
  | rst7  -- FF RST_7 R237
  deriving DecidableEq, Repr

end Sys2Proof
end

