-- ==== Sys2Proof/Machine/Families.lean ====
section
/-! DEFINITION. The rows of the opcode table grouped as the rules of spec/ group them: one `Form` per rule family, with its
operand fields. `Form.instr` and `Instr.form` are two written tables between the two views; the encoder, the statements and
the lemmas use them, `exec` does not. -/

namespace Sys2Proof

/-- A rule family of 41_alu8.md to 46_nop_io_int.md with its operands. -/
inductive Form where
  | alu (op : AluOp) (src : AluSrc)                 -- R120 to R143
  | inr (o : Operand)                               -- R144, R145
  | dcr (o : Operand)                               -- R146, R147
  | daa                                             -- R148
  | inx (p : Pair)                                  -- R160
  | dcx (p : Pair)                                  -- R161
  | dad (p : Pair)                                  -- R162
  | rlc | rrc | ral | rar                           -- R163 to R166
  | cma | cmc | stc                                 -- R167 to R169
  | movRR (dst src : Reg)                           -- R180
  | movRM (dst : Reg)                               -- R181
  | movMR (src : Reg)                               -- R182
  | mvi (o : Operand) (d8 : Byte)                   -- R183, R184
  | lxi (p : Pair) (d16 : Word)                     -- R185
  | lda (adr : Word) | sta (adr : Word)             -- R186, R187
  | ldax (p : IndexPair) | stax (p : IndexPair)     -- R188, R189
  | shld (adr : Word) | lhld (adr : Word)           -- R190, R191
  | xchg                                            -- R192
  | jmp (adr : Word)                                -- R210
  | jumpIf (cond : Cond) (adr : Word)                  -- R211 to R218
  | call (adr : Word)                               -- R219
  | callIf (cond : Cond) (adr : Word)                  -- R220 to R227
  | ret                                             -- R228
  | retIf (cond : Cond)                                -- R229 to R236
  | rst (n : Fin 8)                                 -- R237
  | pchl | sphl | hlt                               -- R238 to R240
  | push (p : StackPair) | pop (p : StackPair)      -- R250, R251
  | pushPsw | popPsw                                -- R252, R253
  | xthl                                            -- R254
  | nop                                             -- R265
  | unassigned (slot : Slot)                        -- R266
  | inPort (d8 : Byte) | outPort (d8 : Byte)        -- R270, R271
  | ei | di                                         -- R272, R273
  deriving DecidableEq, Repr

/-- The family of an instruction, with its operands. -/
def Instr.form : Instr → Form
  | .nop => .nop
  | .lxiB d16 => .lxi .bc d16
  | .staxB => .stax .bc
  | .inxB => .inx .bc
  | .inrB => .inr (.reg .b)
  | .dcrB => .dcr (.reg .b)
  | .mviB d8 => .mvi (.reg .b) d8
  | .rlc => .rlc
  | .nop08 => .unassigned .s08
  | .dadB => .dad .bc
  | .ldaxB => .ldax .bc
  | .dcxB => .dcx .bc
  | .inrC => .inr (.reg .c)
  | .dcrC => .dcr (.reg .c)
  | .mviC d8 => .mvi (.reg .c) d8
  | .rrc => .rrc
  | .nop10 => .unassigned .s10
  | .lxiD d16 => .lxi .de d16
  | .staxD => .stax .de
  | .inxD => .inx .de
  | .inrD => .inr (.reg .d)
  | .dcrD => .dcr (.reg .d)
  | .mviD d8 => .mvi (.reg .d) d8
  | .ral => .ral
  | .nop18 => .unassigned .s18
  | .dadD => .dad .de
  | .ldaxD => .ldax .de
  | .dcxD => .dcx .de
  | .inrE => .inr (.reg .e)
  | .dcrE => .dcr (.reg .e)
  | .mviE d8 => .mvi (.reg .e) d8
  | .rar => .rar
  | .nop20 => .unassigned .s20
  | .lxiH d16 => .lxi .hl d16
  | .shld adr => .shld adr
  | .inxH => .inx .hl
  | .inrH => .inr (.reg .h)
  | .dcrH => .dcr (.reg .h)
  | .mviH d8 => .mvi (.reg .h) d8
  | .daa => .daa
  | .nop28 => .unassigned .s28
  | .dadH => .dad .hl
  | .lhld adr => .lhld adr
  | .dcxH => .dcx .hl
  | .inrL => .inr (.reg .l)
  | .dcrL => .dcr (.reg .l)
  | .mviL d8 => .mvi (.reg .l) d8
  | .cma => .cma
  | .nop30 => .unassigned .s30
  | .lxiSp d16 => .lxi .sp d16
  | .sta adr => .sta adr
  | .inxSp => .inx .sp
  | .inrM => .inr .m
  | .dcrM => .dcr .m
  | .mviM d8 => .mvi .m d8
  | .stc => .stc
  | .nop38 => .unassigned .s38
  | .dadSp => .dad .sp
  | .lda adr => .lda adr
  | .dcxSp => .dcx .sp
  | .inrA => .inr (.reg .a)
  | .dcrA => .dcr (.reg .a)
  | .mviA d8 => .mvi (.reg .a) d8
  | .cmc => .cmc
  | .movBB => .movRR .b .b
  | .movBC => .movRR .b .c
  | .movBD => .movRR .b .d
  | .movBE => .movRR .b .e
  | .movBH => .movRR .b .h
  | .movBL => .movRR .b .l
  | .movBM => .movRM .b
  | .movBA => .movRR .b .a
  | .movCB => .movRR .c .b
  | .movCC => .movRR .c .c
  | .movCD => .movRR .c .d
  | .movCE => .movRR .c .e
  | .movCH => .movRR .c .h
  | .movCL => .movRR .c .l
  | .movCM => .movRM .c
  | .movCA => .movRR .c .a
  | .movDB => .movRR .d .b
  | .movDC => .movRR .d .c
  | .movDD => .movRR .d .d
  | .movDE => .movRR .d .e
  | .movDH => .movRR .d .h
  | .movDL => .movRR .d .l
  | .movDM => .movRM .d
  | .movDA => .movRR .d .a
  | .movEB => .movRR .e .b
  | .movEC => .movRR .e .c
  | .movED => .movRR .e .d
  | .movEE => .movRR .e .e
  | .movEH => .movRR .e .h
  | .movEL => .movRR .e .l
  | .movEM => .movRM .e
  | .movEA => .movRR .e .a
  | .movHB => .movRR .h .b
  | .movHC => .movRR .h .c
  | .movHD => .movRR .h .d
  | .movHE => .movRR .h .e
  | .movHH => .movRR .h .h
  | .movHL => .movRR .h .l
  | .movHM => .movRM .h
  | .movHA => .movRR .h .a
  | .movLB => .movRR .l .b
  | .movLC => .movRR .l .c
  | .movLD => .movRR .l .d
  | .movLE => .movRR .l .e
  | .movLH => .movRR .l .h
  | .movLL => .movRR .l .l
  | .movLM => .movRM .l
  | .movLA => .movRR .l .a
  | .movMB => .movMR .b
  | .movMC => .movMR .c
  | .movMD => .movMR .d
  | .movME => .movMR .e
  | .movMH => .movMR .h
  | .movML => .movMR .l
  | .hlt => .hlt
  | .movMA => .movMR .a
  | .movAB => .movRR .a .b
  | .movAC => .movRR .a .c
  | .movAD => .movRR .a .d
  | .movAE => .movRR .a .e
  | .movAH => .movRR .a .h
  | .movAL => .movRR .a .l
  | .movAM => .movRM .a
  | .movAA => .movRR .a .a
  | .addB => .alu .add (.reg .b)
  | .addC => .alu .add (.reg .c)
  | .addD => .alu .add (.reg .d)
  | .addE => .alu .add (.reg .e)
  | .addH => .alu .add (.reg .h)
  | .addL => .alu .add (.reg .l)
  | .addM => .alu .add .m
  | .addA => .alu .add (.reg .a)
  | .adcB => .alu .adc (.reg .b)
  | .adcC => .alu .adc (.reg .c)
  | .adcD => .alu .adc (.reg .d)
  | .adcE => .alu .adc (.reg .e)
  | .adcH => .alu .adc (.reg .h)
  | .adcL => .alu .adc (.reg .l)
  | .adcM => .alu .adc .m
  | .adcA => .alu .adc (.reg .a)
  | .subB => .alu .sub (.reg .b)
  | .subC => .alu .sub (.reg .c)
  | .subD => .alu .sub (.reg .d)
  | .subE => .alu .sub (.reg .e)
  | .subH => .alu .sub (.reg .h)
  | .subL => .alu .sub (.reg .l)
  | .subM => .alu .sub .m
  | .subA => .alu .sub (.reg .a)
  | .sbbB => .alu .sbb (.reg .b)
  | .sbbC => .alu .sbb (.reg .c)
  | .sbbD => .alu .sbb (.reg .d)
  | .sbbE => .alu .sbb (.reg .e)
  | .sbbH => .alu .sbb (.reg .h)
  | .sbbL => .alu .sbb (.reg .l)
  | .sbbM => .alu .sbb .m
  | .sbbA => .alu .sbb (.reg .a)
  | .anaB => .alu .ana (.reg .b)
  | .anaC => .alu .ana (.reg .c)
  | .anaD => .alu .ana (.reg .d)
  | .anaE => .alu .ana (.reg .e)
  | .anaH => .alu .ana (.reg .h)
  | .anaL => .alu .ana (.reg .l)
  | .anaM => .alu .ana .m
  | .anaA => .alu .ana (.reg .a)
  | .xraB => .alu .xra (.reg .b)
  | .xraC => .alu .xra (.reg .c)
  | .xraD => .alu .xra (.reg .d)
  | .xraE => .alu .xra (.reg .e)
  | .xraH => .alu .xra (.reg .h)
  | .xraL => .alu .xra (.reg .l)
  | .xraM => .alu .xra .m
  | .xraA => .alu .xra (.reg .a)
  | .oraB => .alu .ora (.reg .b)
  | .oraC => .alu .ora (.reg .c)
  | .oraD => .alu .ora (.reg .d)
  | .oraE => .alu .ora (.reg .e)
  | .oraH => .alu .ora (.reg .h)
  | .oraL => .alu .ora (.reg .l)
  | .oraM => .alu .ora .m
  | .oraA => .alu .ora (.reg .a)
  | .cmpB => .alu .cmp (.reg .b)
  | .cmpC => .alu .cmp (.reg .c)
  | .cmpD => .alu .cmp (.reg .d)
  | .cmpE => .alu .cmp (.reg .e)
  | .cmpH => .alu .cmp (.reg .h)
  | .cmpL => .alu .cmp (.reg .l)
  | .cmpM => .alu .cmp .m
  | .cmpA => .alu .cmp (.reg .a)
  | .rnz => .retIf .nz
  | .popB => .pop .bc
  | .jnz adr => .jumpIf .nz adr
  | .jmp adr => .jmp adr
  | .cnz adr => .callIf .nz adr
  | .pushB => .push .bc
  | .adi d8 => .alu .add (.imm d8)
  | .rst0 => .rst 0
  | .rz => .retIf .z
  | .ret => .ret
  | .jz adr => .jumpIf .z adr
  | .nopCB => .unassigned .sCB
  | .cz adr => .callIf .z adr
  | .call adr => .call adr
  | .aci d8 => .alu .adc (.imm d8)
  | .rst1 => .rst 1
  | .rnc => .retIf .nc
  | .popD => .pop .de
  | .jnc adr => .jumpIf .nc adr
  | .outPort d8 => .outPort d8
  | .cnc adr => .callIf .nc adr
  | .pushD => .push .de
  | .sui d8 => .alu .sub (.imm d8)
  | .rst2 => .rst 2
  | .rc => .retIf .c
  | .nopD9 => .unassigned .sD9
  | .jc adr => .jumpIf .c adr
  | .inPort d8 => .inPort d8
  | .cc adr => .callIf .c adr
  | .nopDD => .unassigned .sDD
  | .sbi d8 => .alu .sbb (.imm d8)
  | .rst3 => .rst 3
  | .rpo => .retIf .po
  | .popH => .pop .hl
  | .jpo adr => .jumpIf .po adr
  | .xthl => .xthl
  | .cpo adr => .callIf .po adr
  | .pushH => .push .hl
  | .ani d8 => .alu .ana (.imm d8)
  | .rst4 => .rst 4
  | .rpe => .retIf .pe
  | .pchl => .pchl
  | .jpe adr => .jumpIf .pe adr
  | .xchg => .xchg
  | .cpe adr => .callIf .pe adr
  | .nopED => .unassigned .sED
  | .xri d8 => .alu .xra (.imm d8)
  | .rst5 => .rst 5
  | .rp => .retIf .p
  | .popPsw => .popPsw
  | .jp adr => .jumpIf .p adr
  | .di => .di
  | .cp adr => .callIf .p adr
  | .pushPsw => .pushPsw
  | .ori d8 => .alu .ora (.imm d8)
  | .rst6 => .rst 6
  | .rm => .retIf .m
  | .sphl => .sphl
  | .jm adr => .jumpIf .m adr
  | .ei => .ei
  | .cm adr => .callIf .m adr
  | .nopFD => .unassigned .sFD
  | .cpi d8 => .alu .cmp (.imm d8)
  | .rst7 => .rst 7

/-- The instruction of a family with given operands. -/
def Form.instr : Form → Instr
  | .nop => .nop
  | .lxi .bc d16 => .lxiB d16
  | .stax .bc => .staxB
  | .inx .bc => .inxB
  | .inr (.reg .b) => .inrB
  | .dcr (.reg .b) => .dcrB
  | .mvi (.reg .b) d8 => .mviB d8
  | .rlc => .rlc
  | .unassigned .s08 => .nop08
  | .dad .bc => .dadB
  | .ldax .bc => .ldaxB
  | .dcx .bc => .dcxB
  | .inr (.reg .c) => .inrC
  | .dcr (.reg .c) => .dcrC
  | .mvi (.reg .c) d8 => .mviC d8
  | .rrc => .rrc
  | .unassigned .s10 => .nop10
  | .lxi .de d16 => .lxiD d16
  | .stax .de => .staxD
  | .inx .de => .inxD
  | .inr (.reg .d) => .inrD
  | .dcr (.reg .d) => .dcrD
  | .mvi (.reg .d) d8 => .mviD d8
  | .ral => .ral
  | .unassigned .s18 => .nop18
  | .dad .de => .dadD
  | .ldax .de => .ldaxD
  | .dcx .de => .dcxD
  | .inr (.reg .e) => .inrE
  | .dcr (.reg .e) => .dcrE
  | .mvi (.reg .e) d8 => .mviE d8
  | .rar => .rar
  | .unassigned .s20 => .nop20
  | .lxi .hl d16 => .lxiH d16
  | .shld adr => .shld adr
  | .inx .hl => .inxH
  | .inr (.reg .h) => .inrH
  | .dcr (.reg .h) => .dcrH
  | .mvi (.reg .h) d8 => .mviH d8
  | .daa => .daa
  | .unassigned .s28 => .nop28
  | .dad .hl => .dadH
  | .lhld adr => .lhld adr
  | .dcx .hl => .dcxH
  | .inr (.reg .l) => .inrL
  | .dcr (.reg .l) => .dcrL
  | .mvi (.reg .l) d8 => .mviL d8
  | .cma => .cma
  | .unassigned .s30 => .nop30
  | .lxi .sp d16 => .lxiSp d16
  | .sta adr => .sta adr
  | .inx .sp => .inxSp
  | .inr .m => .inrM
  | .dcr .m => .dcrM
  | .mvi .m d8 => .mviM d8
  | .stc => .stc
  | .unassigned .s38 => .nop38
  | .dad .sp => .dadSp
  | .lda adr => .lda adr
  | .dcx .sp => .dcxSp
  | .inr (.reg .a) => .inrA
  | .dcr (.reg .a) => .dcrA
  | .mvi (.reg .a) d8 => .mviA d8
  | .cmc => .cmc
  | .movRR .b .b => .movBB
  | .movRR .b .c => .movBC
  | .movRR .b .d => .movBD
  | .movRR .b .e => .movBE
  | .movRR .b .h => .movBH
  | .movRR .b .l => .movBL
  | .movRM .b => .movBM
  | .movRR .b .a => .movBA
  | .movRR .c .b => .movCB
  | .movRR .c .c => .movCC
  | .movRR .c .d => .movCD
  | .movRR .c .e => .movCE
  | .movRR .c .h => .movCH
  | .movRR .c .l => .movCL
  | .movRM .c => .movCM
  | .movRR .c .a => .movCA
  | .movRR .d .b => .movDB
  | .movRR .d .c => .movDC
  | .movRR .d .d => .movDD
  | .movRR .d .e => .movDE
  | .movRR .d .h => .movDH
  | .movRR .d .l => .movDL
  | .movRM .d => .movDM
  | .movRR .d .a => .movDA
  | .movRR .e .b => .movEB
  | .movRR .e .c => .movEC
  | .movRR .e .d => .movED
  | .movRR .e .e => .movEE
  | .movRR .e .h => .movEH
  | .movRR .e .l => .movEL
  | .movRM .e => .movEM
  | .movRR .e .a => .movEA
  | .movRR .h .b => .movHB
  | .movRR .h .c => .movHC
  | .movRR .h .d => .movHD
  | .movRR .h .e => .movHE
  | .movRR .h .h => .movHH
  | .movRR .h .l => .movHL
  | .movRM .h => .movHM
  | .movRR .h .a => .movHA
  | .movRR .l .b => .movLB
  | .movRR .l .c => .movLC
  | .movRR .l .d => .movLD
  | .movRR .l .e => .movLE
  | .movRR .l .h => .movLH
  | .movRR .l .l => .movLL
  | .movRM .l => .movLM
  | .movRR .l .a => .movLA
  | .movMR .b => .movMB
  | .movMR .c => .movMC
  | .movMR .d => .movMD
  | .movMR .e => .movME
  | .movMR .h => .movMH
  | .movMR .l => .movML
  | .hlt => .hlt
  | .movMR .a => .movMA
  | .movRR .a .b => .movAB
  | .movRR .a .c => .movAC
  | .movRR .a .d => .movAD
  | .movRR .a .e => .movAE
  | .movRR .a .h => .movAH
  | .movRR .a .l => .movAL
  | .movRM .a => .movAM
  | .movRR .a .a => .movAA
  | .alu .add (.reg .b) => .addB
  | .alu .add (.reg .c) => .addC
  | .alu .add (.reg .d) => .addD
  | .alu .add (.reg .e) => .addE
  | .alu .add (.reg .h) => .addH
  | .alu .add (.reg .l) => .addL
  | .alu .add .m => .addM
  | .alu .add (.reg .a) => .addA
  | .alu .adc (.reg .b) => .adcB
  | .alu .adc (.reg .c) => .adcC
  | .alu .adc (.reg .d) => .adcD
  | .alu .adc (.reg .e) => .adcE
  | .alu .adc (.reg .h) => .adcH
  | .alu .adc (.reg .l) => .adcL
  | .alu .adc .m => .adcM
  | .alu .adc (.reg .a) => .adcA
  | .alu .sub (.reg .b) => .subB
  | .alu .sub (.reg .c) => .subC
  | .alu .sub (.reg .d) => .subD
  | .alu .sub (.reg .e) => .subE
  | .alu .sub (.reg .h) => .subH
  | .alu .sub (.reg .l) => .subL
  | .alu .sub .m => .subM
  | .alu .sub (.reg .a) => .subA
  | .alu .sbb (.reg .b) => .sbbB
  | .alu .sbb (.reg .c) => .sbbC
  | .alu .sbb (.reg .d) => .sbbD
  | .alu .sbb (.reg .e) => .sbbE
  | .alu .sbb (.reg .h) => .sbbH
  | .alu .sbb (.reg .l) => .sbbL
  | .alu .sbb .m => .sbbM
  | .alu .sbb (.reg .a) => .sbbA
  | .alu .ana (.reg .b) => .anaB
  | .alu .ana (.reg .c) => .anaC
  | .alu .ana (.reg .d) => .anaD
  | .alu .ana (.reg .e) => .anaE
  | .alu .ana (.reg .h) => .anaH
  | .alu .ana (.reg .l) => .anaL
  | .alu .ana .m => .anaM
  | .alu .ana (.reg .a) => .anaA
  | .alu .xra (.reg .b) => .xraB
  | .alu .xra (.reg .c) => .xraC
  | .alu .xra (.reg .d) => .xraD
  | .alu .xra (.reg .e) => .xraE
  | .alu .xra (.reg .h) => .xraH
  | .alu .xra (.reg .l) => .xraL
  | .alu .xra .m => .xraM
  | .alu .xra (.reg .a) => .xraA
  | .alu .ora (.reg .b) => .oraB
  | .alu .ora (.reg .c) => .oraC
  | .alu .ora (.reg .d) => .oraD
  | .alu .ora (.reg .e) => .oraE
  | .alu .ora (.reg .h) => .oraH
  | .alu .ora (.reg .l) => .oraL
  | .alu .ora .m => .oraM
  | .alu .ora (.reg .a) => .oraA
  | .alu .cmp (.reg .b) => .cmpB
  | .alu .cmp (.reg .c) => .cmpC
  | .alu .cmp (.reg .d) => .cmpD
  | .alu .cmp (.reg .e) => .cmpE
  | .alu .cmp (.reg .h) => .cmpH
  | .alu .cmp (.reg .l) => .cmpL
  | .alu .cmp .m => .cmpM
  | .alu .cmp (.reg .a) => .cmpA
  | .retIf .nz => .rnz
  | .pop .bc => .popB
  | .jumpIf .nz adr => .jnz adr
  | .jmp adr => .jmp adr
  | .callIf .nz adr => .cnz adr
  | .push .bc => .pushB
  | .alu .add (.imm d8) => .adi d8
  | .rst 0 => .rst0
  | .retIf .z => .rz
  | .ret => .ret
  | .jumpIf .z adr => .jz adr
  | .unassigned .sCB => .nopCB
  | .callIf .z adr => .cz adr
  | .call adr => .call adr
  | .alu .adc (.imm d8) => .aci d8
  | .rst 1 => .rst1
  | .retIf .nc => .rnc
  | .pop .de => .popD
  | .jumpIf .nc adr => .jnc adr
  | .outPort d8 => .outPort d8
  | .callIf .nc adr => .cnc adr
  | .push .de => .pushD
  | .alu .sub (.imm d8) => .sui d8
  | .rst 2 => .rst2
  | .retIf .c => .rc
  | .unassigned .sD9 => .nopD9
  | .jumpIf .c adr => .jc adr
  | .inPort d8 => .inPort d8
  | .callIf .c adr => .cc adr
  | .unassigned .sDD => .nopDD
  | .alu .sbb (.imm d8) => .sbi d8
  | .rst 3 => .rst3
  | .retIf .po => .rpo
  | .pop .hl => .popH
  | .jumpIf .po adr => .jpo adr
  | .xthl => .xthl
  | .callIf .po adr => .cpo adr
  | .push .hl => .pushH
  | .alu .ana (.imm d8) => .ani d8
  | .rst 4 => .rst4
  | .retIf .pe => .rpe
  | .pchl => .pchl
  | .jumpIf .pe adr => .jpe adr
  | .xchg => .xchg
  | .callIf .pe adr => .cpe adr
  | .unassigned .sED => .nopED
  | .alu .xra (.imm d8) => .xri d8
  | .rst 5 => .rst5
  | .retIf .p => .rp
  | .popPsw => .popPsw
  | .jumpIf .p adr => .jp adr
  | .di => .di
  | .callIf .p adr => .cp adr
  | .pushPsw => .pushPsw
  | .alu .ora (.imm d8) => .ori d8
  | .rst 6 => .rst6
  | .retIf .m => .rm
  | .sphl => .sphl
  | .jumpIf .m adr => .jm adr
  | .ei => .ei
  | .callIf .m adr => .cm adr
  | .unassigned .sFD => .nopFD
  | .alu .cmp (.imm d8) => .cpi d8
  | .rst 7 => .rst7

end Sys2Proof
end

