-- ==== Sys2Proof/Config.lean ====
section
/-! DEFINITION. The implementation parameters of 00_scope.md R4 and the free values of the model. -/

namespace Sys2Proof

/-- What the 32 opcodes that the source never names do (00_scope.md R11, 92_eei_decisions.md D4). -/
inductive UnsourcedMode where
  /-- a Tier G opcode executes as its rule says -/
  | execute
  /-- a Tier G opcode raises `UnimplementedOpcode` -/
  | fault
  deriving DecidableEq, Repr

/-- `UNSOURCED_OPCODE_MODE`: the spec decides `execute` (R4, R11, D4). `Machine.stepIn` takes the mode as an argument, so
that both are carried (93_implementation_defined.md U9); `Machine.step` uses this one. DESIGN CHOICE of the spec, log 3. -/
def Config.unsourcedOpcodeMode : UnsourcedMode := .execute

/-- `SP_RESET`, OPEN (10_state.md R42, D1, U5): the value of `sp` after reset, one per machine. No body, so that nothing
can rest on a value of it. DESIGN CHOICE, log 1. -/
opaque Config.spReset : Word

/-- `IoIn`, OPEN (46_nop_io_int.md R270, D9, U6): the byte that the `n`-th execution of IN reads from a port. A FREE VALUE:
no body; every execution has its own `n`, so each read is a draw of its own. DESIGN CHOICE, log 5. -/
opaque Config.ioIn : (n : Nat) → (port : Byte) → Byte

/-- `PSW_FIXED_BITS`: the three bits of a pushed flag byte that hold no flag: bit 1 is 1, bits 3 and 5 are 0 (10_state.md
R31, D6). A proof must not depend on them (93_implementation_defined.md U1). Log 7. -/
def Config.pswFixedBits : Byte := 0x02#8

/-- `MEM_BYTES`: the size of the one memory; every 16-bit address is populated (00_scope.md R4). -/
abbrev Config.memBytes : Nat := 65536

end Sys2Proof
end

