-- ==== Sys2Proof/WellFormed.lean ====
section
/-! DEFINITION. What must hold of what is given to the machine. The operand kinds of Sys2Proof/Syntax.lean leave no room for
an ill-formed instruction (30_encoding.md R78, R86: any byte is legal as an operand byte; register code 6 is `Operand.m`);
the one precondition of the spec is on the image (70_reset_and_hazards.md R313). -/

namespace Sys2Proof

/-- Every instruction is well formed: every operand may hold every value (30_encoding.md R86). -/
def Instr.wellFormed (_ : Instr) : Bool := true

/-- The precondition of reset: an image has at most 65,536 bytes (70_reset_and_hazards.md R313, D14). -/
def imageWellFormed (image : List Byte) : Bool := image.length ≤ Config.memBytes

end Sys2Proof
end

