-- ==== Sys2Proof/Decode.lean ====
section
/-! DEFINITION. Decoding (30_encoding.md): the opcode map as a 16 by 16 grid, total on any bytes, rejecting by name; then
the encoder, written from the bit patterns of R73 to R82 (not from the grid), and the evidence tiers of 00_scope.md R11.
Most byte values are the Intel 8080 map that the spec supplies itself (D22, G1). -/

namespace Sys2Proof

/-- Why bytes do not decode. Raised by `decode` only. Safe: nothing decodes where the machine would not run. -/
inductive DecodeError where
  /-- there is no opcode byte (cannot happen in a step: every address holds a byte, R50) -/
  | noOpcode
  /-- the operand bytes of the opcode are not all there (cannot happen in a step) -/
  | missingOperand (opcode : Byte)
  /-- the last arm of R84: a byte the decoder has no operation for; with the full map no byte reaches it -/
  | unimplemented (opcode : Byte)
  deriving DecidableEq, Repr

/-- What an opcode byte says: the instruction, given its operand, in format F1, F2 or F3 (30_encoding.md R71). -/
inductive Shape where
  | f1 (i : Instr)
  | f2 (i : Byte → Instr)
  | f3 (i : Word → Instr)

/-- The opcode map of 30_encoding.md R79 to R82: row = high hex digit, column = low hex digit. -/
def opcodeGrid : List (List Shape) := [
  [ -- 0x
   .f1 .nop, .f3 .lxiB, .f1 .staxB, .f1 .inxB, .f1 .inrB, .f1 .dcrB, .f2 .mviB, .f1 .rlc,
   .f1 .nop08, .f1 .dadB, .f1 .ldaxB, .f1 .dcxB, .f1 .inrC, .f1 .dcrC, .f2 .mviC, .f1 .rrc],
  [ -- 1x
   .f1 .nop10, .f3 .lxiD, .f1 .staxD, .f1 .inxD, .f1 .inrD, .f1 .dcrD, .f2 .mviD, .f1 .ral,
   .f1 .nop18, .f1 .dadD, .f1 .ldaxD, .f1 .dcxD, .f1 .inrE, .f1 .dcrE, .f2 .mviE, .f1 .rar],
  [ -- 2x
   .f1 .nop20, .f3 .lxiH, .f3 .shld, .f1 .inxH, .f1 .inrH, .f1 .dcrH, .f2 .mviH, .f1 .daa,
   .f1 .nop28, .f1 .dadH, .f3 .lhld, .f1 .dcxH, .f1 .inrL, .f1 .dcrL, .f2 .mviL, .f1 .cma],
  [ -- 3x
   .f1 .nop30, .f3 .lxiSp, .f3 .sta, .f1 .inxSp, .f1 .inrM, .f1 .dcrM, .f2 .mviM, .f1 .stc,
   .f1 .nop38, .f1 .dadSp, .f3 .lda, .f1 .dcxSp, .f1 .inrA, .f1 .dcrA, .f2 .mviA, .f1 .cmc],
  [ -- 4x
   .f1 .movBB, .f1 .movBC, .f1 .movBD, .f1 .movBE, .f1 .movBH, .f1 .movBL, .f1 .movBM, .f1 .movBA,
   .f1 .movCB, .f1 .movCC, .f1 .movCD, .f1 .movCE, .f1 .movCH, .f1 .movCL, .f1 .movCM, .f1 .movCA],
  [ -- 5x
   .f1 .movDB, .f1 .movDC, .f1 .movDD, .f1 .movDE, .f1 .movDH, .f1 .movDL, .f1 .movDM, .f1 .movDA,
   .f1 .movEB, .f1 .movEC, .f1 .movED, .f1 .movEE, .f1 .movEH, .f1 .movEL, .f1 .movEM, .f1 .movEA],
  [ -- 6x
   .f1 .movHB, .f1 .movHC, .f1 .movHD, .f1 .movHE, .f1 .movHH, .f1 .movHL, .f1 .movHM, .f1 .movHA,
   .f1 .movLB, .f1 .movLC, .f1 .movLD, .f1 .movLE, .f1 .movLH, .f1 .movLL, .f1 .movLM, .f1 .movLA],
  [ -- 7x
   .f1 .movMB, .f1 .movMC, .f1 .movMD, .f1 .movME, .f1 .movMH, .f1 .movML, .f1 .hlt, .f1 .movMA,
   .f1 .movAB, .f1 .movAC, .f1 .movAD, .f1 .movAE, .f1 .movAH, .f1 .movAL, .f1 .movAM, .f1 .movAA],
  [ -- 8x
   .f1 .addB, .f1 .addC, .f1 .addD, .f1 .addE, .f1 .addH, .f1 .addL, .f1 .addM, .f1 .addA,
   .f1 .adcB, .f1 .adcC, .f1 .adcD, .f1 .adcE, .f1 .adcH, .f1 .adcL, .f1 .adcM, .f1 .adcA],
  [ -- 9x
   .f1 .subB, .f1 .subC, .f1 .subD, .f1 .subE, .f1 .subH, .f1 .subL, .f1 .subM, .f1 .subA,
   .f1 .sbbB, .f1 .sbbC, .f1 .sbbD, .f1 .sbbE, .f1 .sbbH, .f1 .sbbL, .f1 .sbbM, .f1 .sbbA],
  [ -- Ax
   .f1 .anaB, .f1 .anaC, .f1 .anaD, .f1 .anaE, .f1 .anaH, .f1 .anaL, .f1 .anaM, .f1 .anaA,
   .f1 .xraB, .f1 .xraC, .f1 .xraD, .f1 .xraE, .f1 .xraH, .f1 .xraL, .f1 .xraM, .f1 .xraA],
  [ -- Bx
   .f1 .oraB, .f1 .oraC, .f1 .oraD, .f1 .oraE, .f1 .oraH, .f1 .oraL, .f1 .oraM, .f1 .oraA,
   .f1 .cmpB, .f1 .cmpC, .f1 .cmpD, .f1 .cmpE, .f1 .cmpH, .f1 .cmpL, .f1 .cmpM, .f1 .cmpA],
  [ -- Cx
   .f1 .rnz, .f1 .popB, .f3 .jnz, .f3 .jmp, .f3 .cnz, .f1 .pushB, .f2 .adi, .f1 .rst0,
   .f1 .rz, .f1 .ret, .f3 .jz, .f1 .nopCB, .f3 .cz, .f3 .call, .f2 .aci, .f1 .rst1],
  [ -- Dx
   .f1 .rnc, .f1 .popD, .f3 .jnc, .f2 .outPort, .f3 .cnc, .f1 .pushD, .f2 .sui, .f1 .rst2,
   .f1 .rc, .f1 .nopD9, .f3 .jc, .f2 .inPort, .f3 .cc, .f1 .nopDD, .f2 .sbi, .f1 .rst3],
  [ -- Ex
   .f1 .rpo, .f1 .popH, .f3 .jpo, .f1 .xthl, .f3 .cpo, .f1 .pushH, .f2 .ani, .f1 .rst4,
   .f1 .rpe, .f1 .pchl, .f3 .jpe, .f1 .xchg, .f3 .cpe, .f1 .nopED, .f2 .xri, .f1 .rst5],
  [ -- Fx
   .f1 .rp, .f1 .popPsw, .f3 .jp, .f1 .di, .f3 .cp, .f1 .pushPsw, .f2 .ori, .f1 .rst6,
   .f1 .rm, .f1 .sphl, .f3 .jm, .f1 .ei, .f3 .cm, .f1 .nopFD, .f2 .cpi, .f1 .rst7]]

/-- The row of the opcode map for an opcode byte, if there is one (40_step.md R100). -/
def shapeOf (op : Byte) : Option Shape :=
  match opcodeGrid[op.toNat / 16]? with
  | some row => row[op.toNat % 16]?
  | none => none

/-- The length of an instruction, a function of its opcode byte alone, in the bit terms of 30_encoding.md R72. -/
def opLength (op : Byte) : Nat :=
  let group := op.extractLsb' 6 2
  if group = 0b00#2 && op.extractLsb' 0 4 = 0b0001#4 then 3
  else if group = 0b00#2 && op.getLsbD 5 && op.extractLsb' 0 3 = 0b010#3 then 3
  else if group = 0b11#2 && op.extractLsb' 0 3 = 0b010#3 then 3
  else if group = 0b11#2 && op.extractLsb' 0 3 = 0b100#3 then 3
  else if op = 0xC3#8 || op = 0xCD#8 then 3
  else if group = 0b00#2 && op.extractLsb' 0 3 = 0b110#3 then 2
  else if group = 0b11#2 && op.extractLsb' 0 3 = 0b110#3 then 2
  else if op = 0xD3#8 || op = 0xDB#8 then 2
  else 1

/-- Decode the first instruction of a byte sequence, with the bytes after it (30_encoding.md R70, R71, R78: a 16-bit
operand has its low byte first). -/
def decode : List Byte → Except DecodeError (Instr × List Byte)
  | [] => .error .noOpcode
  | op :: rest =>
    match shapeOf op, rest with
    | none, _ => .error (.unimplemented op)
    | some (.f1 i), rest => .ok (i, rest)
    | some (.f2 i), d :: rest => .ok (i d, rest)
    | some (.f3 i), low :: high :: rest => .ok (i (cat high low), rest)
    | some _, _ => .error (.missingOperand op)

/-- The evidence tiers (00_scope.md R11): sourced, unassigned slot, general knowledge. -/
inductive Tier where
  | s | u | g
  deriving DecidableEq, Repr

/-- The 32 Tier G opcode bytes (30_encoding.md R84). -/
def tierGOpcodes : List Byte :=
  [0x00#8, 0x07#8, 0x09#8, 0x0F#8, 0x17#8, 0x19#8, 0x1F#8, 0x29#8, 0x2F#8, 0x37#8, 0x39#8, 0x3F#8, 0xC7#8, 0xCF#8,
   0xD3#8, 0xD7#8, 0xDB#8, 0xDF#8, 0xE3#8, 0xE7#8, 0xEB#8, 0xEF#8, 0xF0#8, 0xF2#8, 0xF3#8, 0xF4#8, 0xF7#8, 0xF8#8,
   0xFA#8, 0xFB#8, 0xFC#8, 0xFF#8]

/-- The twelve unassigned slots (30_encoding.md R83). -/
def tierUOpcodes : List Byte :=
  [0x08#8, 0x10#8, 0x18#8, 0x20#8, 0x28#8, 0x30#8, 0x38#8, 0xCB#8, 0xD9#8, 0xDD#8, 0xED#8, 0xFD#8]

/-- The tier of an opcode byte (00_scope.md R11). -/
def tierOf (op : Byte) : Tier :=
  if tierGOpcodes.contains op then .g else if tierUOpcodes.contains op then .u else .s

/-! ## The encoder, from the field codes and bit patterns of 30_encoding.md R74 to R82 -/

/-- Register codes (R74). -/
def Reg.code : Reg → BitVec 3
  | .b => 0b000#3
  | .c => 0b001#3
  | .d => 0b010#3
  | .e => 0b011#3
  | .h => 0b100#3
  | .l => 0b101#3
  | .a => 0b111#3

/-- Operand codes (R74): `M` is 110. -/
def Operand.code : Operand → BitVec 3
  | .reg r => r.code
  | .m => 0b110#3

/-- Pair codes of LXI, INX, DCX, DAD (R75). -/
def Pair.code : Pair → BitVec 2
  | .bc => 0b00#2
  | .de => 0b01#2
  | .hl => 0b10#2
  | .sp => 0b11#2

/-- The one bit `p` of STAX and LDAX (R75). -/
def IndexPair.code : IndexPair → BitVec 1
  | .bc => 0#1
  | .de => 1#1

/-- Pair codes of PUSH and POP (R75). -/
def StackPair.code : StackPair → BitVec 2
  | .bc => 0b00#2
  | .de => 0b01#2
  | .hl => 0b10#2

/-- Condition codes (R76). -/
def Cond.code : Cond → BitVec 3
  | .nz => 0b000#3
  | .z => 0b001#3
  | .nc => 0b010#3
  | .c => 0b011#3
  | .po => 0b100#3
  | .pe => 0b101#3
  | .p => 0b110#3
  | .m => 0b111#3

/-- ALU operation codes (R77). -/
def AluOp.code : AluOp → BitVec 3
  | .add => 0b000#3
  | .adc => 0b001#3
  | .sub => 0b010#3
  | .sbb => 0b011#3
  | .ana => 0b100#3
  | .xra => 0b101#3
  | .ora => 0b110#3
  | .cmp => 0b111#3

/-- The opcode byte of an unassigned slot (R83). -/
def Slot.byte : Slot → Byte
  | .s08 => 0x08#8
  | .s10 => 0x10#8
  | .s18 => 0x18#8
  | .s20 => 0x20#8
  | .s28 => 0x28#8
  | .s30 => 0x30#8
  | .s38 => 0x38#8
  | .sCB => 0xCB#8
  | .sD9 => 0xD9#8
  | .sDD => 0xDD#8
  | .sED => 0xED#8
  | .sFD => 0xFD#8

/-- A 16-bit operand in the instruction: low byte first (R71). -/
def operandBytes (v : Word) : List Byte := [lo v, hi v]

/-- The bytes of an instruction of a family (R71, patterns of R79 to R82). -/
def Form.encode : Form → List Byte
  | .alu op (.reg r) => [0b10#2 ++ op.code ++ r.code]
  | .alu op .m => [0b10#2 ++ op.code ++ 0b110#3]
  | .alu op (.imm d8) => [0b11#2 ++ op.code ++ 0b110#3, d8]
  | .inr o => [0b00#2 ++ o.code ++ 0b100#3]
  | .dcr o => [0b00#2 ++ o.code ++ 0b101#3]
  | .daa => [0b00100111#8]
  | .inx p => [0b00#2 ++ p.code ++ 0b0011#4]
  | .dcx p => [0b00#2 ++ p.code ++ 0b1011#4]
  | .dad p => [0b00#2 ++ p.code ++ 0b1001#4]
  | .rlc => [0b00000111#8]
  | .rrc => [0b00001111#8]
  | .ral => [0b00010111#8]
  | .rar => [0b00011111#8]
  | .cma => [0b00101111#8]
  | .stc => [0b00110111#8]
  | .cmc => [0b00111111#8]
  | .movRR dst src => [0b01#2 ++ dst.code ++ src.code]
  | .movRM dst => [0b01#2 ++ dst.code ++ 0b110#3]
  | .movMR src => [0b01110#5 ++ src.code]
  | .mvi o d8 => [0b00#2 ++ o.code ++ 0b110#3, d8]
  | .lxi p d16 => (0b00#2 ++ p.code ++ 0b0001#4) :: operandBytes d16
  | .lda adr => 0b00111010#8 :: operandBytes adr
  | .sta adr => 0b00110010#8 :: operandBytes adr
  | .ldax p => [0b000#3 ++ p.code ++ 0b1010#4]
  | .stax p => [0b000#3 ++ p.code ++ 0b0010#4]
  | .shld adr => 0b00100010#8 :: operandBytes adr
  | .lhld adr => 0b00101010#8 :: operandBytes adr
  | .xchg => [0b11101011#8]
  | .jmp adr => 0b11000011#8 :: operandBytes adr
  | .jumpIf cond adr => (0b11#2 ++ cond.code ++ 0b010#3) :: operandBytes adr
  | .call adr => 0b11001101#8 :: operandBytes adr
  | .callIf cond adr => (0b11#2 ++ cond.code ++ 0b100#3) :: operandBytes adr
  | .ret => [0b11001001#8]
  | .retIf cond => [0b11#2 ++ cond.code ++ 0b000#3]
  | .rst n => [0b11#2 ++ BitVec.ofNat 3 n.val ++ 0b111#3]
  | .pchl => [0b11101001#8]
  | .sphl => [0b11111001#8]
  | .hlt => [0b01110110#8]
  | .push p => [0b11#2 ++ p.code ++ 0b0101#4]
  | .pop p => [0b11#2 ++ p.code ++ 0b0001#4]
  | .pushPsw => [0b11110101#8]
  | .popPsw => [0b11110001#8]
  | .xthl => [0b11100011#8]
  | .nop => [0b00000000#8]
  | .unassigned slot => [slot.byte]
  | .inPort d8 => [0b11011011#8, d8]
  | .outPort d8 => [0b11010011#8, d8]
  | .ei => [0b11111011#8]
  | .di => [0b11110011#8]

/-- The bytes of an instruction. -/
def encode (i : Instr) : List Byte := i.form.encode

/-- The bytes of an instruction numbered as spec/opcode_table.json numbers them: byte `k` is bits `8k+7 .. 8k`, the first
byte the opcode; the bits from `nbits` up to the longest instruction (3 bytes, R70) are zero. -/
def tableBytes (nbits w : Nat) : List Byte :=
  let v := w % 2 ^ nbits
  [byteOf v 0, byteOf v 1, byteOf v 2]

/-- The instruction that the decoder reads from a table word (host interface). -/
def decodeTableWord (nbits w : Nat) : Option Instr :=
  match decode (tableBytes nbits w) with
  | .ok (i, _) => some i
  | .error _ => none

end Sys2Proof
end

