-- ==== Sys2Proof/Machine/State.lean ====
section
/-! DEFINITION. The architectural state as plain data (10_state.md), the reasons a step can stop, and the state after reset
(70_reset_and_hazards.md R310). -/

namespace Sys2Proof.Machine

/-- The seven 8-bit general registers (10_state.md R20). `BC`, `DE`, `HL` are views of them (R21). -/
structure Regs where
  /-- A, the accumulator -/
  a : Byte
  /-- B -/
  b : Byte
  /-- C -/
  c : Byte
  /-- D -/
  d : Byte
  /-- E -/
  e : Byte
  /-- H -/
  h : Byte
  /-- L -/
  l : Byte
  deriving DecidableEq, Repr

/-- The five condition-code flags (10_state.md R28). -/
structure Flags where
  /-- Zero -/
  z : Bool
  /-- Sign -/
  s : Bool
  /-- Parity, true = even -/
  p : Bool
  /-- Carry; after a subtraction, borrow -/
  cy : Bool
  /-- AuxCarry, the carry out of bit 3 -/
  ac : Bool
  deriving DecidableEq, Repr

/-- The fault record of `UnimplementedOpcode` (10_state.md R33, 60_exceptions.md R282). -/
structure FaultRecord where
  /-- the opcode byte fetched -/
  opcode : Byte
  /-- the address of that byte -/
  address : Word
  deriving DecidableEq, Repr

/-- An output event of OUT (46_nop_io_int.md R271). -/
structure OutEvent where
  /-- the port number, the operand of OUT -/
  port : Byte
  /-- the value of A -/
  value : Byte
  deriving DecidableEq, Repr

/-- The one flat memory (10_state.md R35): the bytes that differ from 0x00, by address, addresses rising. An unlisted
address reads as 0x00, the reset contents (R45). The form is `Memory.wf` in Machine/Ops.lean. -/
abbrev Memory := List Host.Cell

/-- The whole state (10_state.md R20 to R35; R34: there is nothing else), and two fields of the model's own. -/
structure State where
  /-- the general registers (R20) -/
  regs : Regs
  /-- the program counter (R24) -/
  pc : Word
  /-- the stack pointer (R27) -/
  sp : Word
  /-- the condition-code flags (R28) -/
  flags : Flags
  /-- the run flag (R32) -/
  run : Bool
  /-- the fault record, `none` unless `UnimplementedOpcode` was raised (R33) -/
  fault : Option FaultRecord
  /-- the memory (R35) -/
  mem : Memory
  /-- THE MODEL'S OWN: the number of IN instructions executed, which makes each value read a free value of its own
  (46_nop_io_int.md R270). DESIGN CHOICE, log 5. -/
  ioCount : Nat
  /-- THE MODEL'S OWN: the output trace that 46_nop_io_int.md R271 lets a model record, newest first. DESIGN CHOICE, log 6. -/
  outEvents : List OutEvent
  deriving DecidableEq, Repr

/-- Why the machine stops. -/
inductive Fault where
  /-- Raised by `step` (never by a meaning) on a machine whose fault record is set: "after the raise no step is enabled, for
  ever" (60_exceptions.md R284). It carries the record. Safe: nothing is claimed of a state after it. -/
  | unimplementedOpcode (opcode : Byte) (address : Word)
  deriving DecidableEq, Repr

/-- Why something is refused. -/
inductive Refusal where
  /-- An arm of `exec` without a meaning. No arm raises it: every instruction has its meaning. Safe. -/
  | notModelled (mnemonic : String)
  /-- Raised by `State.create` (never by a step) for an image of more than 65,536 bytes: "a longer image is refused and no
  machine exists" (70_reset_and_hazards.md R313, D14). Safe. -/
  | imageTooLong (length : Nat)
  deriving DecidableEq, Repr

/-- What a step or a meaning answers. -/
abbrev Result := Host.Outcome State Fault Refusal

/-- The machine right after reset (70_reset_and_hazards.md R310), created from the empty image ("an empty image is legal and
gives an all-zero memory", R312). `sp` is the open parameter (R42, log 1); the flags are decided by the spec (R43, log 2). -/
def State.reset : State :=
  { regs := { a := 0, b := 0, c := 0, d := 0, e := 0, h := 0, l := 0 }
    pc := 0
    sp := Config.spReset
    flags := { z := false, s := false, p := false, cy := false, ac := false }
    run := false
    fault := none
    mem := []
    ioCount := 0
    outEvents := [] }

end Sys2Proof.Machine
end

