-- ==== Sys2Proof/Machine/Ops.lean ====
section
/-! DEFINITION. The named operations over registers and memory (00_scope.md R7, R8; 20_memory.md), the stack (40_step.md
R110), the creation of the machine from an image (70_reset_and_hazards.md R310 to R313) and the one exception
(60_exceptions.md R281 to R283). -/

namespace Sys2Proof.Machine

/-! ## Memory -/

/-- What an address that is not listed reads as: 0x00 (10_state.md R45). -/
def unlistedByte : Byte := 0x00#8

/-- The byte at an address. -/
def Memory.read : Memory → Nat → Byte
  | [], _ => unlistedByte
  | (k, v) :: m, a => if k = a then v else Memory.read m a

/-- Put a byte at an address, keeping the canonical form: a cell in its place, or none for the unlisted byte. -/
def Memory.write : Memory → Nat → Byte → Memory
  | [], a, v => if v = unlistedByte then [] else [(a, v)]
  | (k, w) :: m, a, v =>
    if a < k then (if v = unlistedByte then (k, w) :: m else (a, v) :: (k, w) :: m)
    else if a = k then (if v = unlistedByte then m else (a, v) :: m)
    else (k, w) :: Memory.write m a v

/-- The cells lie at rising addresses from `low` on, inside the 65,536 bytes (R50), and none holds the unlisted byte. -/
def Memory.wfFrom : Nat → Memory → Bool
  | _, [] => true
  | low, (k, v) :: m => decide (low ≤ k) && decide (k < Config.memBytes) && v != unlistedByte && Memory.wfFrom (k + 1) m

/-- The canonical form of a memory. -/
def Memory.wf (m : Memory) : Bool := Memory.wfFrom 0 m

/-- The memory that holds an image from address `at_` on (10_state.md R45). -/
def Memory.load : Nat → List Byte → Memory
  | _, [] => []
  | at_, v :: image => if v = unlistedByte then Memory.load (at_ + 1) image else (at_, v) :: Memory.load (at_ + 1) image

/-- `MemRead(addr, 1)` (00_scope.md R8). No access can fail (20_memory.md R53, R56). -/
def State.readByte (s : State) (addr : Word) : Byte := s.mem.read addr.toNat

/-- `MemWrite(addr, 1, v)` (00_scope.md R8). -/
def State.writeByte (s : State) (addr : Word) (v : Byte) : State := { s with mem := s.mem.write addr.toNat v }

/-- `MemRead(addr, 2)`: the low byte at the lower address; the second address wraps (00_scope.md R8, 20_memory.md R60). -/
def State.readWord (s : State) (addr : Word) : Word := cat (s.readByte (addr + 1)) (s.readByte addr)

/-- `MemWrite(addr, 2, v)` (00_scope.md R8, 20_memory.md R60). -/
def State.writeWord (s : State) (addr : Word) (v : Word) : State := (s.writeByte addr (lo v)).writeByte (addr + 1) (hi v)

/-! ## Registers -/

/-- `r[c]` (00_scope.md R7). -/
def Regs.get (r : Regs) : Reg → Byte
  | .a => r.a
  | .b => r.b
  | .c => r.c
  | .d => r.d
  | .e => r.e
  | .h => r.h
  | .l => r.l

/-- `r[c] <- v` (00_scope.md R7). No register is hardwired (10_state.md R20). -/
def Regs.set (r : Regs) (n : Reg) (v : Byte) : Regs :=
  match n with
  | .a => { r with a := v }
  | .b => { r with b := v }
  | .c => { r with c := v }
  | .d => { r with d := v }
  | .e => { r with e := v }
  | .h => { r with h := v }
  | .l => { r with l := v }

/-- `BC = {B, C}` (10_state.md R21). -/
def Regs.bc (r : Regs) : Word := cat r.b r.c

/-- `DE = {D, E}` (10_state.md R21). -/
def Regs.de (r : Regs) : Word := cat r.d r.e

/-- `HL = {H, L}` (10_state.md R21). -/
def Regs.hl (r : Regs) : Word := cat r.h r.l

/-- `BC <- v` (00_scope.md R7). -/
def Regs.setBc (r : Regs) (v : Word) : Regs := { r with b := hi v, c := lo v }

/-- `DE <- v` (00_scope.md R7). -/
def Regs.setDe (r : Regs) (v : Word) : Regs := { r with d := hi v, e := lo v }

/-- `HL <- v` (00_scope.md R7). -/
def Regs.setHl (r : Regs) (v : Word) : Regs := { r with h := hi v, l := lo v }

/-- A register written. -/
def State.setReg (s : State) (n : Reg) (v : Byte) : State := { s with regs := s.regs.set n v }

/-- `pc <- next`, `len` bytes on, modulo 65,536 (10_state.md R25). -/
def State.advance (s : State) (len : Word) : State := { s with pc := s.pc + len }

/-- The address of the next sequential instruction (00_scope.md R10). -/
def State.next (s : State) (len : Word) : Word := s.pc + len

/-! ## The stack (40_step.md R110) -/

/-- `Push16(v)`: the high byte at `sp - 1`, the low byte at `sp - 2`, then `sp - 2`; addresses wrap. -/
def State.push16 (s : State) (v : Word) : State :=
  { (s.writeByte (s.sp - 1) (hi v)).writeByte (s.sp - 2) (lo v) with sp := s.sp - 2 }

/-- The value that `Pop16()` returns: the low byte at `sp`, the high byte at `sp + 1`. -/
def State.stackTop (s : State) : Word := cat (s.readByte (s.sp + 1)) (s.readByte s.sp)

/-- What `Pop16()` does to the state: `sp + 2`. -/
def State.pop16 (s : State) : State := { s with sp := s.sp + 2 }

/-! ## Reset from an image (70_reset_and_hazards.md R310 to R313) -/

/-- The creation of a machine: `SP_RESET` and `IMAGE` are arguments (00_scope.md R4); an image of more than 65,536 bytes is
refused (R313). -/
def State.create (spReset : Word) (image : List Byte) : Except Refusal State :=
  if image.length ≤ Config.memBytes then
    .ok { State.reset with sp := spReset, mem := Memory.load 0 image }
  else .error (.imageTooLong image.length)

/-! ## The one exception -/

/-- `raise UnimplementedOpcode(op, address)`: the record is set and nothing else changes (60_exceptions.md R283, D15; no
trap entry, R291). There is no return from it (R292). -/
def State.raiseUnimplemented (s : State) (op : Byte) (address : Word) : State :=
  { s with fault := some { opcode := op, address := address } }

end Sys2Proof.Machine
end

