-- ==== Sys2Proof/Machine/Flags.lean ====
section
/-! DEFINITION. Flag computations: 40_step.md R105 to R109 and the flag byte of 10_state.md R31. -/

namespace Sys2Proof.Machine

/-- `popcount(v)` (00_scope.md R6). -/
def popcount (v : Byte) : Nat :=
  (v.getLsbD 0).toNat + (v.getLsbD 1).toNat + (v.getLsbD 2).toNat + (v.getLsbD 3).toNat
    + (v.getLsbD 4).toNat + (v.getLsbD 5).toNat + (v.getLsbD 6).toNat + (v.getLsbD 7).toNat

/-- `Parity8(v)`: an even number of 1 bits (R105). -/
def parity8 (v : Byte) : Bool := popcount v % 2 == 0

/-- `SetZSP(v)`: `CY` and `AC` are not touched (R106). -/
def Flags.setZSP (f : Flags) (v : Byte) : Flags :=
  { f with z := v == 0, s := v.getLsbD 7, p := parity8 v }

/-- What an 8-bit ALU operation computes. -/
structure AluOut where
  /-- the truncated result -/
  res : Byte
  /-- carry or borrow out -/
  cy : Bool
  /-- carry out of bit 3 -/
  ac : Bool
  deriving DecidableEq, Repr

/-- `Add8(x, y, cin)` on a 9-bit intermediate (R107). -/
def add8 (x y : Byte) (cin : Bool) : AluOut :=
  let t := x.toNat + y.toNat + cin.toNat
  { res := BitVec.ofNat 8 t
    cy := decide (t > 0xFF)
    ac := decide ((x &&& 0x0F#8).toNat + (y &&& 0x0F#8).toNat + cin.toNat > 0x0F) }

/-- `Sub8(x, y, bin)`: `cy` is bit 8 of `(x - y - bin) mod 512`, the borrow (R108, C2); `ac` is the raw carry out of bit 3
of `x + ~y + (1 - bin)` (D3, log 8). -/
def sub8 (x y : Byte) (bin : Bool) : AluOut :=
  let t := (x.toNat + 512 - y.toNat - bin.toNat) % 512
  { res := BitVec.ofNat 8 t
    cy := t.testBit 8
    ac := decide ((x &&& 0x0F#8).toNat + (~~~y &&& 0x0F#8).toNat + (1 - bin.toNat) > 0x0F) }

/-- A logic operation's result: `CY` and `AC` are false (R109, D8, log 9). -/
def logic8 (res : Byte) : AluOut := { res := res, cy := false, ac := false }

/-- All five flags from an ALU operation (R120 to R143). -/
def Flags.ofAlu (f : Flags) (r : AluOut) : Flags := { f.setZSP r.res with cy := r.cy, ac := r.ac }

/-- The flags INR and DCR write: `Z S P AC`; `CY` is kept (R144 to R147, D7, log 10). -/
def Flags.ofCount (f : Flags) (r : AluOut) : Flags := { f.setZSP r.res with ac := r.ac }

/-- Only `CY` written (R162 to R166, R168, R169). -/
def Flags.setCy (f : Flags) (c : Bool) : Flags := { f with cy := c }

/-- One flag at its bit position. -/
def flagBit (b : Bool) (pos : Nat) : Byte := if b then 1#8 <<< pos else 0#8

/-- `FlagByte() = {S, Z, 0, AC, 0, P, 1, CY}` (10_state.md R31, D5, D6, log 7). -/
def Flags.toByte (f : Flags) : Byte :=
  flagBit f.s 7 ||| flagBit f.z 6 ||| flagBit f.ac 4 ||| flagBit f.p 2 ||| flagBit f.cy 0 ||| Config.pswFixedBits

/-- `SetFlagsFromByte(b)`: bits 5, 3 and 1 are ignored (10_state.md R31). -/
def Flags.ofByte (b : Byte) : Flags :=
  { s := b.getLsbD 7, z := b.getLsbD 6, ac := b.getLsbD 4, p := b.getLsbD 2, cy := b.getLsbD 0 }

end Sys2Proof.Machine
end

