-- ==== Sys2Proof/Machine/Operands.lean ====
section
/-! DEFINITION. Operand forms (30_encoding.md R74 to R78; 40_step.md R103, R104) and conditions (R111). -/

namespace Sys2Proof.Machine

/-- `Reg8Read(c)`: a register, or `mem[HL]` (R103). -/
def State.readOperand (s : State) : Operand → Byte
  | .reg r => s.regs.get r
  | .m => s.readByte s.regs.hl

/-- `Reg8Write(c, v)`: a register, or `mem[HL]` (R103). -/
def State.writeOperand (s : State) (o : Operand) (v : Byte) : State :=
  match o with
  | .reg r => s.setReg r v
  | .m => s.writeByte s.regs.hl v

/-- The second operand of an ALU instruction (41_alu8.md). -/
def State.readSrc (s : State) : AluSrc → Byte
  | .reg r => s.readOperand (.reg r)
  | .m => s.readOperand .m
  | .imm d8 => d8

/-- The length of an ALU instruction by its operand form (30_encoding.md R71: F2 for the immediate forms, else F1). -/
def srcLength : AluSrc → Word
  | .reg _ => 1
  | .m => 1
  | .imm _ => 2

/-- `PairRead(rp)` (R104). -/
def State.readPair (s : State) : Pair → Word
  | .bc => s.regs.bc
  | .de => s.regs.de
  | .hl => s.regs.hl
  | .sp => s.sp

/-- `PairWrite(rp, v)` (R104). -/
def State.writePair (s : State) (p : Pair) (v : Word) : State :=
  match p with
  | .bc => { s with regs := s.regs.setBc v }
  | .de => { s with regs := s.regs.setDe v }
  | .hl => { s with regs := s.regs.setHl v }
  | .sp => { s with sp := v }

/-- The pair that LDAX and STAX address memory through (43_data_movement.md R188, R189). -/
def indexPair : IndexPair → Pair
  | .bc => .bc
  | .de => .de

/-- The pair that PUSH and POP move (45_stack.md R250, R251). -/
def stackPair : StackPair → Pair
  | .bc => .bc
  | .de => .de
  | .hl => .hl

/-- `Cond(ccc)` (R111; the polarities of 30_encoding.md R76). -/
def Flags.cond (f : Flags) : Cond → Bool
  | .nz => !f.z
  | .z => f.z
  | .nc => !f.cy
  | .c => f.cy
  | .po => !f.p
  | .pe => f.p
  | .p => !f.s
  | .m => f.s

end Sys2Proof.Machine
end

