-- ==== Sys2Proof/Machine/Alu8.lean ====
section
/-! DEFINITION. 8-bit arithmetic and logic (41_alu8.md): ADD ADC SUB SBB ANA XRA ORA CMP over registers, `M` and immediates,
INR and DCR, DAA. The shared operations stand first, then one meaning per instruction. -/

namespace Sys2Proof.Machine

/-- The result of an ALU operation on `x` = A and the operand `y` (R120 to R143); ADC and SBB read `CY`. -/
def aluOut (op : AluOp) (x y : Byte) (cy : Bool) : AluOut :=
  match op with
  | .add => add8 x y false
  | .adc => add8 x y cy
  | .sub => sub8 x y false
  | .sbb => sub8 x y cy
  | .ana => logic8 (x &&& y)
  | .xra => logic8 (x ^^^ y)
  | .ora => logic8 (x ||| y)
  | .cmp => sub8 x y false

/-- What an ALU operation leaves in A: its result, but for CMP and CPI, which discard it (R134, R135, R143). -/
def aluAcc (op : AluOp) (x res : Byte) : Byte :=
  match op with
  | .cmp => x
  | _ => res

/-- An 8-bit ALU instruction: A, all five flags, `pc` (R120 to R143). The operand is read before anything is written. -/
def State.alu (s : State) (op : AluOp) (src : AluSrc) : State :=
  let r := aluOut op s.regs.a (s.readSrc src) s.flags.cy
  { s with
    regs := s.regs.set .a (aluAcc op s.regs.a r.res)
    flags := s.flags.ofAlu r
    pc := s.next (srcLength src) }

/-- INR: one read, one write of the same operand; `Z S P AC` (R144, R145). -/
def State.inr (s : State) (o : Operand) : State :=
  let r := add8 (s.readOperand o) 1 false
  let t := s.writeOperand o r.res
  { t with flags := s.flags.ofCount r, pc := s.next 1 }

/-- DCR: one read, one write of the same operand; `Z S P AC` (R146, R147). -/
def State.dcr (s : State) (o : Operand) : State :=
  let r := sub8 (s.readOperand o) 1 false
  let t := s.writeOperand o r.res
  { t with flags := s.flags.ofCount r, pc := s.next 1 }

/-- ADD B (R120). -/
def execAddB (s : State) : Result := .next (s.alu .add (.reg .b))

/-- ADD C (R120). -/
def execAddC (s : State) : Result := .next (s.alu .add (.reg .c))

/-- ADD D (R120). -/
def execAddD (s : State) : Result := .next (s.alu .add (.reg .d))

/-- ADD E (R120). -/
def execAddE (s : State) : Result := .next (s.alu .add (.reg .e))

/-- ADD H (R120). -/
def execAddH (s : State) : Result := .next (s.alu .add (.reg .h))

/-- ADD L (R120). -/
def execAddL (s : State) : Result := .next (s.alu .add (.reg .l))

/-- ADD A (R120). -/
def execAddA (s : State) : Result := .next (s.alu .add (.reg .a))

/-- ADD M (R121). -/
def execAddM (s : State) : Result := .next (s.alu .add .m)

/-- ADC B (R122). -/
def execAdcB (s : State) : Result := .next (s.alu .adc (.reg .b))

/-- ADC C (R122). -/
def execAdcC (s : State) : Result := .next (s.alu .adc (.reg .c))

/-- ADC D (R122). -/
def execAdcD (s : State) : Result := .next (s.alu .adc (.reg .d))

/-- ADC E (R122). -/
def execAdcE (s : State) : Result := .next (s.alu .adc (.reg .e))

/-- ADC H (R122). -/
def execAdcH (s : State) : Result := .next (s.alu .adc (.reg .h))

/-- ADC L (R122). -/
def execAdcL (s : State) : Result := .next (s.alu .adc (.reg .l))

/-- ADC A (R122). -/
def execAdcA (s : State) : Result := .next (s.alu .adc (.reg .a))

/-- ADC M (R123). -/
def execAdcM (s : State) : Result := .next (s.alu .adc .m)

/-- SUB B (R124). -/
def execSubB (s : State) : Result := .next (s.alu .sub (.reg .b))

/-- SUB C (R124). -/
def execSubC (s : State) : Result := .next (s.alu .sub (.reg .c))

/-- SUB D (R124). -/
def execSubD (s : State) : Result := .next (s.alu .sub (.reg .d))

/-- SUB E (R124). -/
def execSubE (s : State) : Result := .next (s.alu .sub (.reg .e))

/-- SUB H (R124). -/
def execSubH (s : State) : Result := .next (s.alu .sub (.reg .h))

/-- SUB L (R124). -/
def execSubL (s : State) : Result := .next (s.alu .sub (.reg .l))

/-- SUB A (R124). -/
def execSubA (s : State) : Result := .next (s.alu .sub (.reg .a))

/-- SUB M (R125). -/
def execSubM (s : State) : Result := .next (s.alu .sub .m)

/-- SBB B (R126). -/
def execSbbB (s : State) : Result := .next (s.alu .sbb (.reg .b))

/-- SBB C (R126). -/
def execSbbC (s : State) : Result := .next (s.alu .sbb (.reg .c))

/-- SBB D (R126). -/
def execSbbD (s : State) : Result := .next (s.alu .sbb (.reg .d))

/-- SBB E (R126). -/
def execSbbE (s : State) : Result := .next (s.alu .sbb (.reg .e))

/-- SBB H (R126). -/
def execSbbH (s : State) : Result := .next (s.alu .sbb (.reg .h))

/-- SBB L (R126). -/
def execSbbL (s : State) : Result := .next (s.alu .sbb (.reg .l))

/-- SBB A (R126). -/
def execSbbA (s : State) : Result := .next (s.alu .sbb (.reg .a))

/-- SBB M (R127). -/
def execSbbM (s : State) : Result := .next (s.alu .sbb .m)

/-- ANA B (R128). -/
def execAnaB (s : State) : Result := .next (s.alu .ana (.reg .b))

/-- ANA C (R128). -/
def execAnaC (s : State) : Result := .next (s.alu .ana (.reg .c))

/-- ANA D (R128). -/
def execAnaD (s : State) : Result := .next (s.alu .ana (.reg .d))

/-- ANA E (R128). -/
def execAnaE (s : State) : Result := .next (s.alu .ana (.reg .e))

/-- ANA H (R128). -/
def execAnaH (s : State) : Result := .next (s.alu .ana (.reg .h))

/-- ANA L (R128). -/
def execAnaL (s : State) : Result := .next (s.alu .ana (.reg .l))

/-- ANA A (R128). -/
def execAnaA (s : State) : Result := .next (s.alu .ana (.reg .a))

/-- ANA M (R129). -/
def execAnaM (s : State) : Result := .next (s.alu .ana .m)

/-- XRA B (R130). -/
def execXraB (s : State) : Result := .next (s.alu .xra (.reg .b))

/-- XRA C (R130). -/
def execXraC (s : State) : Result := .next (s.alu .xra (.reg .c))

/-- XRA D (R130). -/
def execXraD (s : State) : Result := .next (s.alu .xra (.reg .d))

/-- XRA E (R130). -/
def execXraE (s : State) : Result := .next (s.alu .xra (.reg .e))

/-- XRA H (R130). -/
def execXraH (s : State) : Result := .next (s.alu .xra (.reg .h))

/-- XRA L (R130). -/
def execXraL (s : State) : Result := .next (s.alu .xra (.reg .l))

/-- XRA A (R130). -/
def execXraA (s : State) : Result := .next (s.alu .xra (.reg .a))

/-- XRA M (R131). -/
def execXraM (s : State) : Result := .next (s.alu .xra .m)

/-- ORA B (R132). -/
def execOraB (s : State) : Result := .next (s.alu .ora (.reg .b))

/-- ORA C (R132). -/
def execOraC (s : State) : Result := .next (s.alu .ora (.reg .c))

/-- ORA D (R132). -/
def execOraD (s : State) : Result := .next (s.alu .ora (.reg .d))

/-- ORA E (R132). -/
def execOraE (s : State) : Result := .next (s.alu .ora (.reg .e))

/-- ORA H (R132). -/
def execOraH (s : State) : Result := .next (s.alu .ora (.reg .h))

/-- ORA L (R132). -/
def execOraL (s : State) : Result := .next (s.alu .ora (.reg .l))

/-- ORA A (R132). -/
def execOraA (s : State) : Result := .next (s.alu .ora (.reg .a))

/-- ORA M (R133). -/
def execOraM (s : State) : Result := .next (s.alu .ora .m)

/-- CMP B (R134). -/
def execCmpB (s : State) : Result := .next (s.alu .cmp (.reg .b))

/-- CMP C (R134). -/
def execCmpC (s : State) : Result := .next (s.alu .cmp (.reg .c))

/-- CMP D (R134). -/
def execCmpD (s : State) : Result := .next (s.alu .cmp (.reg .d))

/-- CMP E (R134). -/
def execCmpE (s : State) : Result := .next (s.alu .cmp (.reg .e))

/-- CMP H (R134). -/
def execCmpH (s : State) : Result := .next (s.alu .cmp (.reg .h))

/-- CMP L (R134). -/
def execCmpL (s : State) : Result := .next (s.alu .cmp (.reg .l))

/-- CMP A (R134). -/
def execCmpA (s : State) : Result := .next (s.alu .cmp (.reg .a))

/-- CMP M (R135). -/
def execCmpM (s : State) : Result := .next (s.alu .cmp .m)

/-- ADI d8 (R136). -/
def execAdi (d8 : Byte) (s : State) : Result := .next (s.alu .add (.imm d8))

/-- ACI d8 (R137). -/
def execAci (d8 : Byte) (s : State) : Result := .next (s.alu .adc (.imm d8))

/-- SUI d8 (R138). -/
def execSui (d8 : Byte) (s : State) : Result := .next (s.alu .sub (.imm d8))

/-- SBI d8 (R139). -/
def execSbi (d8 : Byte) (s : State) : Result := .next (s.alu .sbb (.imm d8))

/-- ANI d8 (R140). -/
def execAni (d8 : Byte) (s : State) : Result := .next (s.alu .ana (.imm d8))

/-- XRI d8 (R141). -/
def execXri (d8 : Byte) (s : State) : Result := .next (s.alu .xra (.imm d8))

/-- ORI d8 (R142). -/
def execOri (d8 : Byte) (s : State) : Result := .next (s.alu .ora (.imm d8))

/-- CPI d8 (R143). -/
def execCpi (d8 : Byte) (s : State) : Result := .next (s.alu .cmp (.imm d8))

/-- INR B (R144). -/
def execInrB (s : State) : Result := .next (s.inr (.reg .b))

/-- INR C (R144). -/
def execInrC (s : State) : Result := .next (s.inr (.reg .c))

/-- INR D (R144). -/
def execInrD (s : State) : Result := .next (s.inr (.reg .d))

/-- INR E (R144). -/
def execInrE (s : State) : Result := .next (s.inr (.reg .e))

/-- INR H (R144). -/
def execInrH (s : State) : Result := .next (s.inr (.reg .h))

/-- INR L (R144). -/
def execInrL (s : State) : Result := .next (s.inr (.reg .l))

/-- INR A (R144). -/
def execInrA (s : State) : Result := .next (s.inr (.reg .a))

/-- INR M (R145). -/
def execInrM (s : State) : Result := .next (s.inr .m)

/-- DCR B (R146). -/
def execDcrB (s : State) : Result := .next (s.dcr (.reg .b))

/-- DCR C (R146). -/
def execDcrC (s : State) : Result := .next (s.dcr (.reg .c))

/-- DCR D (R146). -/
def execDcrD (s : State) : Result := .next (s.dcr (.reg .d))

/-- DCR E (R146). -/
def execDcrE (s : State) : Result := .next (s.dcr (.reg .e))

/-- DCR H (R146). -/
def execDcrH (s : State) : Result := .next (s.dcr (.reg .h))

/-- DCR L (R146). -/
def execDcrL (s : State) : Result := .next (s.dcr (.reg .l))

/-- DCR A (R146). -/
def execDcrA (s : State) : Result := .next (s.dcr (.reg .a))

/-- DCR M (R147). -/
def execDcrM (s : State) : Result := .next (s.dcr .m)

/-- DAA (R148). A no-operation in this hardware (U4). -/
def execDaa (s : State) : Result := .next (s.advance 1)

end Sys2Proof.Machine
end

