-- ==== Sys2Proof/Machine/Control.lean ====
section
/-! DEFINITION. Control flow (44_control_flow.md). No instruction here writes a flag; a target is used as it is. `pc` moves
to `next` before a condition is evaluated (40_step.md R102). The shared operations stand first, then one meaning per
instruction. -/

namespace Sys2Proof.Machine

/-- `pc <- target`. -/
def State.jumpTo (s : State) (target : Word) : State := { s with pc := target }

/-- `Push16(next)`, then `pc <- target` (R219, R237). -/
def State.callTo (s : State) (next target : Word) : State := (s.push16 next).jumpTo target

/-- `pc <- Pop16()` (R228). -/
def State.returnTo (s : State) : State := s.pop16.jumpTo s.stackTop

/-- A conditional jump (R211 to R218). -/
def State.jumpIf (s : State) (cond : Cond) (adr : Word) : State :=
  let t := s.advance 3
  if t.flags.cond cond then t.jumpTo adr else t

/-- A conditional call (R220 to R227): when the condition is false nothing is pushed. -/
def State.callIf (s : State) (cond : Cond) (adr : Word) : State :=
  let t := s.advance 3
  if t.flags.cond cond then t.callTo t.pc adr else t

/-- A conditional return (R229 to R236): when the condition is false nothing is popped. -/
def State.retIf (s : State) (cond : Cond) : State :=
  let t := s.advance 1
  if t.flags.cond cond then t.returnTo else t

/-- The target of RST n: `8 * n` (R237). -/
def rstTarget (n : BitVec 3) : Word := n.setWidth 16 * 8

/-- RST n: a one-byte call (R237). -/
def State.rst (s : State) (n : BitVec 3) : State := s.callTo (s.next 1) (rstTarget n)

/-- HLT: the run flag is cleared and `pc` is just past the HLT (R240). -/
def State.halt (s : State) : State := { s with run := false, pc := s.next 1 }

/-- JMP adr (R210). -/
def execJmp (adr : Word) (s : State) : Result := .next (s.jumpTo adr)

/-- JNZ adr (R211). -/
def execJnz (adr : Word) (s : State) : Result := .next (s.jumpIf .nz adr)

/-- JZ adr (R212). -/
def execJz (adr : Word) (s : State) : Result := .next (s.jumpIf .z adr)

/-- JNC adr (R213). -/
def execJnc (adr : Word) (s : State) : Result := .next (s.jumpIf .nc adr)

/-- JC adr (R214). -/
def execJc (adr : Word) (s : State) : Result := .next (s.jumpIf .c adr)

/-- JPO adr (R215). -/
def execJpo (adr : Word) (s : State) : Result := .next (s.jumpIf .po adr)

/-- JPE adr (R216). -/
def execJpe (adr : Word) (s : State) : Result := .next (s.jumpIf .pe adr)

/-- JP adr (R217). -/
def execJp (adr : Word) (s : State) : Result := .next (s.jumpIf .p adr)

/-- JM adr (R218). -/
def execJm (adr : Word) (s : State) : Result := .next (s.jumpIf .m adr)

/-- CALL adr (R219). -/
def execCall (adr : Word) (s : State) : Result := .next (s.callTo (s.next 3) adr)

/-- CNZ adr (R220). -/
def execCnz (adr : Word) (s : State) : Result := .next (s.callIf .nz adr)

/-- CZ adr (R221). -/
def execCz (adr : Word) (s : State) : Result := .next (s.callIf .z adr)

/-- CNC adr (R222). -/
def execCnc (adr : Word) (s : State) : Result := .next (s.callIf .nc adr)

/-- CC adr (R223). -/
def execCc (adr : Word) (s : State) : Result := .next (s.callIf .c adr)

/-- CPO adr (R224). -/
def execCpo (adr : Word) (s : State) : Result := .next (s.callIf .po adr)

/-- CPE adr (R225). -/
def execCpe (adr : Word) (s : State) : Result := .next (s.callIf .pe adr)

/-- CP adr (R226). -/
def execCp (adr : Word) (s : State) : Result := .next (s.callIf .p adr)

/-- CM adr (R227). -/
def execCm (adr : Word) (s : State) : Result := .next (s.callIf .m adr)

/-- RET (R228). -/
def execRet (s : State) : Result := .next (s.returnTo)

/-- RNZ (R229). -/
def execRnz (s : State) : Result := .next (s.retIf .nz)

/-- RZ (R230). -/
def execRz (s : State) : Result := .next (s.retIf .z)

/-- RNC (R231). -/
def execRnc (s : State) : Result := .next (s.retIf .nc)

/-- RC (R232). -/
def execRc (s : State) : Result := .next (s.retIf .c)

/-- RPO (R233). -/
def execRpo (s : State) : Result := .next (s.retIf .po)

/-- RPE (R234). -/
def execRpe (s : State) : Result := .next (s.retIf .pe)

/-- RP (R235). -/
def execRp (s : State) : Result := .next (s.retIf .p)

/-- RM (R236). -/
def execRm (s : State) : Result := .next (s.retIf .m)

/-- RST 0 (R237). -/
def execRst0 (s : State) : Result := .next (s.rst 0b000#3)

/-- RST 1 (R237). -/
def execRst1 (s : State) : Result := .next (s.rst 0b001#3)

/-- RST 2 (R237). -/
def execRst2 (s : State) : Result := .next (s.rst 0b010#3)

/-- RST 3 (R237). -/
def execRst3 (s : State) : Result := .next (s.rst 0b011#3)

/-- RST 4 (R237). -/
def execRst4 (s : State) : Result := .next (s.rst 0b100#3)

/-- RST 5 (R237). -/
def execRst5 (s : State) : Result := .next (s.rst 0b101#3)

/-- RST 6 (R237). -/
def execRst6 (s : State) : Result := .next (s.rst 0b110#3)

/-- RST 7 (R237). -/
def execRst7 (s : State) : Result := .next (s.rst 0b111#3)

/-- PCHL (R238). -/
def execPchl (s : State) : Result := .next (s.jumpTo s.regs.hl)

/-- SPHL (R239). -/
def execSphl (s : State) : Result := .next ((s.writePair .sp s.regs.hl).advance 1)

/-- HLT (R240). -/
def execHlt (s : State) : Result := .next (s.halt)

end Sys2Proof.Machine
end

