-- ==== Sys2Proof/Machine/DataMove.lean ====
section
/-! DEFINITION. Data movement (43_data_movement.md). No instruction here writes a flag. The shared operations stand first,
then one meaning per instruction. -/

namespace Sys2Proof.Machine

/-- MOV in its three forms: the source is read, then the destination written (R180, R181, R182). -/
def State.mov (s : State) (dst src : Operand) : State := (s.writeOperand dst (s.readOperand src)).advance 1

/-- MVI (R183, R184). -/
def State.mvi (s : State) (dst : Operand) (d8 : Byte) : State := (s.writeOperand dst d8).advance 2

/-- LXI (R185). -/
def State.lxi (s : State) (p : Pair) (d16 : Word) : State := (s.writePair p d16).advance 3

/-- LDA and LDAX: A from an address (R186, R188). -/
def State.loadA (s : State) (adr len : Word) : State := (s.setReg .a (s.readByte adr)).advance len

/-- STA and STAX: A to an address (R187, R189). -/
def State.storeA (s : State) (adr len : Word) : State := (s.writeByte adr s.regs.a).advance len

/-- SHLD: L at `adr`, H at `adr + 1` modulo 65,536 (R190). -/
def State.shld (s : State) (adr : Word) : State := (s.writeWord adr s.regs.hl).advance 3

/-- LHLD: L from `adr`, H from `adr + 1` modulo 65,536 (R191). -/
def State.lhld (s : State) (adr : Word) : State := (s.writePair .hl (s.readWord adr)).advance 3

/-- XCHG: each right side is the value before (R192). -/
def State.xchg (s : State) : State :=
  { s with regs := (s.regs.setHl s.regs.de).setDe s.regs.hl, pc := s.next 1 }

/-- MOV B,B (R180). -/
def execMovBB (s : State) : Result := .next (s.mov (.reg .b) (.reg .b))

/-- MOV B,C (R180). -/
def execMovBC (s : State) : Result := .next (s.mov (.reg .b) (.reg .c))

/-- MOV B,D (R180). -/
def execMovBD (s : State) : Result := .next (s.mov (.reg .b) (.reg .d))

/-- MOV B,E (R180). -/
def execMovBE (s : State) : Result := .next (s.mov (.reg .b) (.reg .e))

/-- MOV B,H (R180). -/
def execMovBH (s : State) : Result := .next (s.mov (.reg .b) (.reg .h))

/-- MOV B,L (R180). -/
def execMovBL (s : State) : Result := .next (s.mov (.reg .b) (.reg .l))

/-- MOV B,A (R180). -/
def execMovBA (s : State) : Result := .next (s.mov (.reg .b) (.reg .a))

/-- MOV C,B (R180). -/
def execMovCB (s : State) : Result := .next (s.mov (.reg .c) (.reg .b))

/-- MOV C,C (R180). -/
def execMovCC (s : State) : Result := .next (s.mov (.reg .c) (.reg .c))

/-- MOV C,D (R180). -/
def execMovCD (s : State) : Result := .next (s.mov (.reg .c) (.reg .d))

/-- MOV C,E (R180). -/
def execMovCE (s : State) : Result := .next (s.mov (.reg .c) (.reg .e))

/-- MOV C,H (R180). -/
def execMovCH (s : State) : Result := .next (s.mov (.reg .c) (.reg .h))

/-- MOV C,L (R180). -/
def execMovCL (s : State) : Result := .next (s.mov (.reg .c) (.reg .l))

/-- MOV C,A (R180). -/
def execMovCA (s : State) : Result := .next (s.mov (.reg .c) (.reg .a))

/-- MOV D,B (R180). -/
def execMovDB (s : State) : Result := .next (s.mov (.reg .d) (.reg .b))

/-- MOV D,C (R180). -/
def execMovDC (s : State) : Result := .next (s.mov (.reg .d) (.reg .c))

/-- MOV D,D (R180). -/
def execMovDD (s : State) : Result := .next (s.mov (.reg .d) (.reg .d))

/-- MOV D,E (R180). -/
def execMovDE (s : State) : Result := .next (s.mov (.reg .d) (.reg .e))

/-- MOV D,H (R180). -/
def execMovDH (s : State) : Result := .next (s.mov (.reg .d) (.reg .h))

/-- MOV D,L (R180). -/
def execMovDL (s : State) : Result := .next (s.mov (.reg .d) (.reg .l))

/-- MOV D,A (R180). -/
def execMovDA (s : State) : Result := .next (s.mov (.reg .d) (.reg .a))

/-- MOV E,B (R180). -/
def execMovEB (s : State) : Result := .next (s.mov (.reg .e) (.reg .b))

/-- MOV E,C (R180). -/
def execMovEC (s : State) : Result := .next (s.mov (.reg .e) (.reg .c))

/-- MOV E,D (R180). -/
def execMovED (s : State) : Result := .next (s.mov (.reg .e) (.reg .d))

/-- MOV E,E (R180). -/
def execMovEE (s : State) : Result := .next (s.mov (.reg .e) (.reg .e))

/-- MOV E,H (R180). -/
def execMovEH (s : State) : Result := .next (s.mov (.reg .e) (.reg .h))

/-- MOV E,L (R180). -/
def execMovEL (s : State) : Result := .next (s.mov (.reg .e) (.reg .l))

/-- MOV E,A (R180). -/
def execMovEA (s : State) : Result := .next (s.mov (.reg .e) (.reg .a))

/-- MOV H,B (R180). -/
def execMovHB (s : State) : Result := .next (s.mov (.reg .h) (.reg .b))

/-- MOV H,C (R180). -/
def execMovHC (s : State) : Result := .next (s.mov (.reg .h) (.reg .c))

/-- MOV H,D (R180). -/
def execMovHD (s : State) : Result := .next (s.mov (.reg .h) (.reg .d))

/-- MOV H,E (R180). -/
def execMovHE (s : State) : Result := .next (s.mov (.reg .h) (.reg .e))

/-- MOV H,H (R180). -/
def execMovHH (s : State) : Result := .next (s.mov (.reg .h) (.reg .h))

/-- MOV H,L (R180). -/
def execMovHL (s : State) : Result := .next (s.mov (.reg .h) (.reg .l))

/-- MOV H,A (R180). -/
def execMovHA (s : State) : Result := .next (s.mov (.reg .h) (.reg .a))

/-- MOV L,B (R180). -/
def execMovLB (s : State) : Result := .next (s.mov (.reg .l) (.reg .b))

/-- MOV L,C (R180). -/
def execMovLC (s : State) : Result := .next (s.mov (.reg .l) (.reg .c))

/-- MOV L,D (R180). -/
def execMovLD (s : State) : Result := .next (s.mov (.reg .l) (.reg .d))

/-- MOV L,E (R180). -/
def execMovLE (s : State) : Result := .next (s.mov (.reg .l) (.reg .e))

/-- MOV L,H (R180). -/
def execMovLH (s : State) : Result := .next (s.mov (.reg .l) (.reg .h))

/-- MOV L,L (R180). -/
def execMovLL (s : State) : Result := .next (s.mov (.reg .l) (.reg .l))

/-- MOV L,A (R180). -/
def execMovLA (s : State) : Result := .next (s.mov (.reg .l) (.reg .a))

/-- MOV A,B (R180). -/
def execMovAB (s : State) : Result := .next (s.mov (.reg .a) (.reg .b))

/-- MOV A,C (R180). -/
def execMovAC (s : State) : Result := .next (s.mov (.reg .a) (.reg .c))

/-- MOV A,D (R180). -/
def execMovAD (s : State) : Result := .next (s.mov (.reg .a) (.reg .d))

/-- MOV A,E (R180). -/
def execMovAE (s : State) : Result := .next (s.mov (.reg .a) (.reg .e))

/-- MOV A,H (R180). -/
def execMovAH (s : State) : Result := .next (s.mov (.reg .a) (.reg .h))

/-- MOV A,L (R180). -/
def execMovAL (s : State) : Result := .next (s.mov (.reg .a) (.reg .l))

/-- MOV A,A (R180). -/
def execMovAA (s : State) : Result := .next (s.mov (.reg .a) (.reg .a))

/-- MOV B,M (R181). -/
def execMovBM (s : State) : Result := .next (s.mov (.reg .b) .m)

/-- MOV C,M (R181). -/
def execMovCM (s : State) : Result := .next (s.mov (.reg .c) .m)

/-- MOV D,M (R181). -/
def execMovDM (s : State) : Result := .next (s.mov (.reg .d) .m)

/-- MOV E,M (R181). -/
def execMovEM (s : State) : Result := .next (s.mov (.reg .e) .m)

/-- MOV H,M (R181). -/
def execMovHM (s : State) : Result := .next (s.mov (.reg .h) .m)

/-- MOV L,M (R181). -/
def execMovLM (s : State) : Result := .next (s.mov (.reg .l) .m)

/-- MOV A,M (R181). -/
def execMovAM (s : State) : Result := .next (s.mov (.reg .a) .m)

/-- MOV M,B (R182). -/
def execMovMB (s : State) : Result := .next (s.mov .m (.reg .b))

/-- MOV M,C (R182). -/
def execMovMC (s : State) : Result := .next (s.mov .m (.reg .c))

/-- MOV M,D (R182). -/
def execMovMD (s : State) : Result := .next (s.mov .m (.reg .d))

/-- MOV M,E (R182). -/
def execMovME (s : State) : Result := .next (s.mov .m (.reg .e))

/-- MOV M,H (R182). -/
def execMovMH (s : State) : Result := .next (s.mov .m (.reg .h))

/-- MOV M,L (R182). -/
def execMovML (s : State) : Result := .next (s.mov .m (.reg .l))

/-- MOV M,A (R182). -/
def execMovMA (s : State) : Result := .next (s.mov .m (.reg .a))

/-- MVI B,d8 (R183). -/
def execMviB (d8 : Byte) (s : State) : Result := .next (s.mvi (.reg .b) d8)

/-- MVI C,d8 (R183). -/
def execMviC (d8 : Byte) (s : State) : Result := .next (s.mvi (.reg .c) d8)

/-- MVI D,d8 (R183). -/
def execMviD (d8 : Byte) (s : State) : Result := .next (s.mvi (.reg .d) d8)

/-- MVI E,d8 (R183). -/
def execMviE (d8 : Byte) (s : State) : Result := .next (s.mvi (.reg .e) d8)

/-- MVI H,d8 (R183). -/
def execMviH (d8 : Byte) (s : State) : Result := .next (s.mvi (.reg .h) d8)

/-- MVI L,d8 (R183). -/
def execMviL (d8 : Byte) (s : State) : Result := .next (s.mvi (.reg .l) d8)

/-- MVI A,d8 (R183). -/
def execMviA (d8 : Byte) (s : State) : Result := .next (s.mvi (.reg .a) d8)

/-- MVI M,d8 (R184). -/
def execMviM (d8 : Byte) (s : State) : Result := .next (s.mvi .m d8)

/-- LXI B,d16 (R185). -/
def execLxiB (d16 : Word) (s : State) : Result := .next (s.lxi .bc d16)

/-- LXI D,d16 (R185). -/
def execLxiD (d16 : Word) (s : State) : Result := .next (s.lxi .de d16)

/-- LXI H,d16 (R185). -/
def execLxiH (d16 : Word) (s : State) : Result := .next (s.lxi .hl d16)

/-- LXI SP,d16 (R185). -/
def execLxiSp (d16 : Word) (s : State) : Result := .next (s.lxi .sp d16)

/-- LDA adr (R186). -/
def execLda (adr : Word) (s : State) : Result := .next (s.loadA adr 3)

/-- STA adr (R187). -/
def execSta (adr : Word) (s : State) : Result := .next (s.storeA adr 3)

/-- LDAX B (R188). -/
def execLdaxB (s : State) : Result := .next (s.loadA (s.readPair (indexPair .bc)) 1)

/-- LDAX D (R188). -/
def execLdaxD (s : State) : Result := .next (s.loadA (s.readPair (indexPair .de)) 1)

/-- STAX B (R189). -/
def execStaxB (s : State) : Result := .next (s.storeA (s.readPair (indexPair .bc)) 1)

/-- STAX D (R189). -/
def execStaxD (s : State) : Result := .next (s.storeA (s.readPair (indexPair .de)) 1)

/-- SHLD adr (R190). -/
def execShld (adr : Word) (s : State) : Result := .next (s.shld adr)

/-- LHLD adr (R191). -/
def execLhld (adr : Word) (s : State) : Result := .next (s.lhld adr)

/-- XCHG (R192). -/
def execXchg (s : State) : Result := .next (s.xchg)

end Sys2Proof.Machine
end

