-- ==== Sys2Proof/Machine/PairRotate.lean ====
section
/-! DEFINITION. Register-pair arithmetic, rotates and flag operations (42_pair_rotate_flagops.md). The shared operations
stand first, then one meaning per instruction. -/

namespace Sys2Proof.Machine

/-- INX: the pair plus one, modulo 65,536, no flag (R160). -/
def State.inx (s : State) (p : Pair) : State := (s.writePair p (s.readPair p + 1)).advance 1

/-- DCX: the pair minus one, modulo 65,536, no flag (R161). -/
def State.dcx (s : State) (p : Pair) : State := (s.writePair p (s.readPair p - 1)).advance 1

/-- DAD: `HL` plus the pair on a 17-bit intermediate; only `CY` is written (R162). -/
def State.dad (s : State) (p : Pair) : State :=
  let t := s.regs.hl.toNat + (s.readPair p).toNat
  { s with regs := s.regs.setHl (BitVec.ofNat 16 t), flags := s.flags.setCy (t.testBit 16), pc := s.next 1 }

/-- A rotate: A and `CY` written, nothing else but `pc` (R163 to R166). -/
def State.rotate (s : State) (a : Byte) (cy : Bool) : State :=
  { s with regs := s.regs.set .a a, flags := s.flags.setCy cy, pc := s.next 1 }

/-- A one-bit value as bits. -/
def bit1 (b : Bool) : BitVec 1 := BitVec.ofBool b

/-- RLC: `CY <- A[7]`, `A <- {A[6:0], A[7]}` (R163). -/
def State.rlc (s : State) : State :=
  s.rotate (s.regs.a.extractLsb' 0 7 ++ s.regs.a.extractLsb' 7 1) (s.regs.a.getLsbD 7)

/-- RRC: `CY <- A[0]`, `A <- {A[0], A[7:1]}` (R164). -/
def State.rrc (s : State) : State :=
  s.rotate (s.regs.a.extractLsb' 0 1 ++ s.regs.a.extractLsb' 1 7) (s.regs.a.getLsbD 0)

/-- RAL: `A <- {A[6:0], CY}`, `CY <- A[7]` (R165). -/
def State.ral (s : State) : State :=
  s.rotate (s.regs.a.extractLsb' 0 7 ++ bit1 s.flags.cy) (s.regs.a.getLsbD 7)

/-- RAR: `A <- {CY, A[7:1]}`, `CY <- A[0]` (R166). -/
def State.rar (s : State) : State :=
  s.rotate (bit1 s.flags.cy ++ s.regs.a.extractLsb' 1 7) (s.regs.a.getLsbD 0)

/-- CMA: `A <- ~A`, no flag (R167). -/
def State.cma (s : State) : State := (s.setReg .a (~~~s.regs.a)).advance 1

/-- CMC and STC: only `CY` written (R168, R169). -/
def State.withCarry (s : State) (cy : Bool) : State := { s with flags := s.flags.setCy cy, pc := s.next 1 }

/-- INX B (R160). -/
def execInxB (s : State) : Result := .next (s.inx .bc)

/-- INX D (R160). -/
def execInxD (s : State) : Result := .next (s.inx .de)

/-- INX H (R160). -/
def execInxH (s : State) : Result := .next (s.inx .hl)

/-- INX SP (R160). -/
def execInxSp (s : State) : Result := .next (s.inx .sp)

/-- DCX B (R161). -/
def execDcxB (s : State) : Result := .next (s.dcx .bc)

/-- DCX D (R161). -/
def execDcxD (s : State) : Result := .next (s.dcx .de)

/-- DCX H (R161). -/
def execDcxH (s : State) : Result := .next (s.dcx .hl)

/-- DCX SP (R161). -/
def execDcxSp (s : State) : Result := .next (s.dcx .sp)

/-- DAD B (R162). -/
def execDadB (s : State) : Result := .next (s.dad .bc)

/-- DAD D (R162). -/
def execDadD (s : State) : Result := .next (s.dad .de)

/-- DAD H (R162). -/
def execDadH (s : State) : Result := .next (s.dad .hl)

/-- DAD SP (R162). -/
def execDadSp (s : State) : Result := .next (s.dad .sp)

/-- RLC (R163). -/
def execRlc (s : State) : Result := .next (s.rlc)

/-- RRC (R164). -/
def execRrc (s : State) : Result := .next (s.rrc)

/-- RAL (R165). -/
def execRal (s : State) : Result := .next (s.ral)

/-- RAR (R166). -/
def execRar (s : State) : Result := .next (s.rar)

/-- CMA (R167). -/
def execCma (s : State) : Result := .next (s.cma)

/-- CMC (R168). -/
def execCmc (s : State) : Result := .next (s.withCarry (!s.flags.cy))

/-- STC (R169). -/
def execStc (s : State) : Result := .next (s.withCarry true)

end Sys2Proof.Machine
end

