-- ==== Sys2Proof/Machine/Stack.lean ====
section
/-! DEFINITION. Stack instructions (45_stack.md). In PUSH and POP pair code 3 is PSW = {A, flag byte}. The shared operations
stand first, then one meaning per instruction. -/

namespace Sys2Proof.Machine

/-- PUSH rp (R250). -/
def State.pushPair (s : State) (p : StackPair) : State := (s.push16 (s.readPair (stackPair p))).advance 1

/-- POP rp (R251). -/
def State.popPair (s : State) (p : StackPair) : State := (s.pop16.writePair (stackPair p) s.stackTop).advance 1

/-- PUSH PSW: A the high byte, the flag byte the low one (R252). -/
def State.pushStatus (s : State) : State := (s.push16 (cat s.regs.a s.flags.toByte)).advance 1

/-- POP PSW (R253). -/
def State.popStatus (s : State) : State :=
  let v := s.stackTop
  { s.pop16 with regs := s.regs.set .a (hi v), flags := Flags.ofByte (lo v), pc := s.next 1 }

/-- XTHL: both reads precede both writes; `sp` is unchanged (R254). -/
def State.exchangeTop (s : State) : State :=
  ((s.writeWord s.sp s.regs.hl).writePair .hl (s.readWord s.sp)).advance 1

/-- PUSH B (R250). -/
def execPushB (s : State) : Result := .next (s.pushPair .bc)

/-- PUSH D (R250). -/
def execPushD (s : State) : Result := .next (s.pushPair .de)

/-- PUSH H (R250). -/
def execPushH (s : State) : Result := .next (s.pushPair .hl)

/-- POP B (R251). -/
def execPopB (s : State) : Result := .next (s.popPair .bc)

/-- POP D (R251). -/
def execPopD (s : State) : Result := .next (s.popPair .de)

/-- POP H (R251). -/
def execPopH (s : State) : Result := .next (s.popPair .hl)

/-- PUSH PSW (R252). -/
def execPushPsw (s : State) : Result := .next (s.pushStatus)

/-- POP PSW (R253). -/
def execPopPsw (s : State) : Result := .next (s.popStatus)

/-- XTHL (R254). -/
def execXthl (s : State) : Result := .next (s.exchangeTop)

end Sys2Proof.Machine
end

