-- ==== Sys2Proof/Machine/System.lean ====
section
/-! DEFINITION. No-operation, unassigned slots, input and output, interrupt control (46_nop_io_int.md). The shared operations
stand first, then one meaning per instruction. -/

namespace Sys2Proof.Machine

/-- IN: A from the open function `IoIn`, a free value for each execution (R270, D9, log 5). No flag. -/
def State.input (s : State) (port : Byte) : State :=
  { s with
    regs := s.regs.set .a (Config.ioIn s.ioCount port)
    ioCount := s.ioCount + 1
    pc := s.next 2 }

/-- OUT: no core state but `pc`; the event is recorded in the output trace (R271, D17, log 6). -/
def State.output (s : State) (port : Byte) : State :=
  { s with outEvents := { port := port, value := s.regs.a } :: s.outEvents, pc := s.next 2 }

/-- NOP (R265). -/
def execNop (s : State) : Result := .next (s.advance 1)

/-- `*NOP`, the unassigned slot 0x08 (R266). -/
def execNop08 (s : State) : Result := .next (s.advance 1)

/-- `*NOP`, the unassigned slot 0x10 (R266). -/
def execNop10 (s : State) : Result := .next (s.advance 1)

/-- `*NOP`, the unassigned slot 0x18 (R266). -/
def execNop18 (s : State) : Result := .next (s.advance 1)

/-- `*NOP`, the unassigned slot 0x20 (R266). -/
def execNop20 (s : State) : Result := .next (s.advance 1)

/-- `*NOP`, the unassigned slot 0x28 (R266). -/
def execNop28 (s : State) : Result := .next (s.advance 1)

/-- `*NOP`, the unassigned slot 0x30 (R266). -/
def execNop30 (s : State) : Result := .next (s.advance 1)

/-- `*NOP`, the unassigned slot 0x38 (R266). -/
def execNop38 (s : State) : Result := .next (s.advance 1)

/-- `*NOP`, the unassigned slot 0xCB (R266). -/
def execNopCB (s : State) : Result := .next (s.advance 1)

/-- `*NOP`, the unassigned slot 0xD9 (R266). -/
def execNopD9 (s : State) : Result := .next (s.advance 1)

/-- `*NOP`, the unassigned slot 0xDD (R266). -/
def execNopDD (s : State) : Result := .next (s.advance 1)

/-- `*NOP`, the unassigned slot 0xED (R266). -/
def execNopED (s : State) : Result := .next (s.advance 1)

/-- `*NOP`, the unassigned slot 0xFD (R266). -/
def execNopFD (s : State) : Result := .next (s.advance 1)

/-- IN d8 (R270). -/
def execInPort (d8 : Byte) (s : State) : Result := .next (s.input d8)

/-- OUT d8 (R271). -/
def execOutPort (d8 : Byte) (s : State) : Result := .next (s.output d8)

/-- EI (R272). No effect: there is no interrupt-enable bit (D16). -/
def execEi (s : State) : Result := .next (s.advance 1)

/-- DI (R273). No effect: there is no interrupt-enable bit (D16). -/
def execDi (s : State) : Result := .next (s.advance 1)

end Sys2Proof.Machine
end

