-- ==== Sys2Proof/Machine/Fetch.lean ====
section
/-! DEFINITION. Fetching an instruction and the step in either mode of `UNSOURCED_OPCODE_MODE` (40_step.md R100 to R102). -/

namespace Sys2Proof.Machine

/-- The opcode byte: `MemRead(pc, 1)` (R100). -/
def State.opcode (s : State) : Byte := s.readByte s.pc

/-- The bytes of the instruction at `pc`, as many as its opcode says, at ascending addresses that wrap (R100, R102;
20_memory.md R52, R60). Reading has no side effect (20_memory.md R56). -/
def State.fetchBytes (s : State) : List Byte :=
  (List.range (opLength s.opcode)).map fun k => s.readByte (s.pc + BitVec.ofNat 16 k)

/-- Whether the opcode raises `UnimplementedOpcode` in a mode before anything else happens (R100; 30_encoding.md R84). -/
def raisesIn (mode : UnsourcedMode) (op : Byte) : Bool :=
  match mode with
  | .execute => false
  | .fault => tierOf op == .g

/-- One instruction of an enabled machine (R100): the raise, or the decoded instruction's meaning. The bytes are fetched
before the effect (R102), so an instruction that overwrites itself still executes as fetched (20_memory.md R65). -/
def State.executeOne (s : State) (mode : UnsourcedMode) : Result :=
  if raisesIn mode s.opcode then .next (s.raiseUnimplemented s.opcode s.pc)
  else
    match decode s.fetchBytes with
    | .ok (i, _) => exec i s
    | .error _ => .next (s.raiseUnimplemented s.opcode s.pc)

/-- The step in a mode (R101): a faulted machine has no step, ever (60_exceptions.md R284); while `run` is false the engine
does nothing (log 11); otherwise one instruction. -/
def stepIn (mode : UnsourcedMode) (s : State) : Result :=
  match s.fault with
  | some r => .fault (.unimplementedOpcode r.opcode r.address)
  | none => if s.run then s.executeOne mode else .next s

/-- Bytes put at ascending addresses from `addr` on. -/
def State.placeBytes (s : State) (addr : Word) : List Byte → State
  | [] => s
  | v :: vs => State.placeBytes (s.writeByte addr v) (addr + 1) vs

/-- An instruction placed where the next step fetches, the machine enabled (log 13). -/
def State.placeInstruction (s : State) (bytes : List Byte) : State :=
  { s.placeBytes s.pc bytes with run := true, fault := none }

end Sys2Proof.Machine
end

