-- ==== Sys2Proof/Machine/Step.lean ====
section
/-! DEFINITION. The step of the machine (40_step.md R100), in the mode that the spec decides (00_scope.md R11, D4), and the
host's placing of one instruction. -/

namespace Sys2Proof.Machine

/-- One step, in the mode `execute`. -/
def step (s : State) : Host.Outcome State Fault Refusal := stepIn Config.unsourcedOpcodeMode s

/-- `s` with an instruction of the opcode table, its bits numbered as the table numbers them, at `pc`; the run flag set and
no fault recorded, which a step needs (40_step.md R101, log 13). Nothing else is changed. -/
def State.withFetchWord (s : State) (nbits w : Nat) : State := s.placeInstruction (tableBytes nbits w)

end Sys2Proof.Machine
end

