-- ==== Sys2Proof/Machine/Driver.lean ====
section
/-! DEFINITION. The host driver's moves between steps, the histories they make with steps, what may be said of a state, and
the run as a function of the launch (60_exceptions.md R285, R286, R294 to R300).
The driver reads everything and writes only `run`; breakpoints, pause and single-stepping are host logic whose whole effect
is the move `pause` (R298). -/

namespace Sys2Proof.Machine

/-- The two moves of the driver (R297). -/
inductive DriverMove where
  /-- `run <- true` -/
  | resume
  /-- `run <- false` -/
  | pause
  deriving DecidableEq, Repr

/-- A move of the driver: only `run` changes (R297); "setting `run` has no effect on a faulted machine" (R284, log 12). -/
def State.drive (s : State) (move : DriverMove) : State :=
  match s.fault, move with
  | some _, _ => s
  | none, .resume => { s with run := true }
  | none, .pause => { s with run := false }

/-- What can happen: a step, or a move of the driver; they alternate and never overlap (R295). -/
inductive Event where
  /-- the driver asks for one step -/
  | step
  /-- the driver writes `run` -/
  | drive (move : DriverMove)
  deriving DecidableEq, Repr

/-- One event. -/
def State.happen (s : State) (mode : UnsourcedMode) : Event → Result
  | .step => stepIn mode s
  | .drive move => .next (s.drive move)

/-- A history of events; it stops where a step faults (R284). -/
def State.history (s : State) (mode : UnsourcedMode) : List Event → Result
  | [] => .next s
  | e :: es =>
    match s.happen mode e with
    | .next t => State.history t mode es
    | .fault r => .fault r
    | .refused r => .refused r

/-- The launch of R300: reset from an image, then one move `run <- true`. -/
def State.launch (spReset : Word) (image : List Byte) : Except Refusal State :=
  match State.create spReset image with
  | .ok s => .ok (s.drive .resume)
  | .error r => .error r

/-- What a claim may be about: the whole state of an unfaulted machine, but of a faulted one the record alone, "every piece of
state other than `fault` itself" being unreliable (R286). The two are kept apart in the type (R285). -/
inductive View where
  /-- no fault is recorded: the state is well-defined -/
  | unfaulted (s : State)
  /-- `UnimplementedOpcode` was raised: nothing is known but its record -/
  | faulted (r : FaultRecord)
  deriving DecidableEq, Repr

/-- The view of a state. -/
def State.view (s : State) : View :=
  match s.fault with
  | none => .unfaulted s
  | some r => .faulted r

/-- How far a run has come after a number of steps. -/
inductive RunOutcome where
  /-- a step executed HLT: the final state (R300) -/
  | ended (final : State)
  /-- a step raised: not an end (R285, R300), and nothing is known but the record (R286) -/
  | faulted (r : FaultRecord)
  /-- no end so far: the run may still end, or hang for ever (R300) -/
  | unfinished (s : State)
  deriving DecidableEq, Repr

/-- At most `n` steps with no host move between them, "until the first state with `run = false`" (R300). A machine that the host
has paused takes no step and has not ended. -/
def State.runFor (mode : UnsourcedMode) : Nat → State → RunOutcome
  | 0, s => .unfinished s
  | n + 1, s =>
    if s.run = false then .unfinished s
    else
      match stepIn mode s with
      | .next t =>
        match t.view with
        | .faulted r => .faulted r
        | .unfaulted u => if u.run then State.runFor mode n u else .ended u
      | .fault (.unimplementedOpcode op address) => .faulted { opcode := op, address := address }
      | .refused _ => .unfinished s

/-- The run as a function of the launch (R300, D23): `UNSOURCED_OPCODE_MODE`, `SP_RESET` and `IMAGE` are arguments and `IoIn` is
`Config.ioIn`; looked at after at most `n` steps (log 19). -/
def runOf (mode : UnsourcedMode) (spReset : Word) (image : List Byte) (n : Nat) : Except Refusal RunOutcome :=
  match State.launch spReset image with
  | .ok s => .ok (s.runFor mode n)
  | .error r => .error r

end Sys2Proof.Machine
end

