-- ==== Sys2Proof/Safety.lean ====
section
/-! DEFINITION. The terms that claims use: an enabled, a halted, a faulted machine, the end of a run, the invariant of the
machine, and the readings of spec/ that statements compare the machine with (written from the rules, not from Machine/). -/

namespace Sys2Proof.Machine

/-! ## Conditions of the machine -/

/-- A step is enabled (40_step.md R101). -/
def Enabled (s : State) : Prop := s.run = true ∧ s.fault = none

/-- Halted or paused: no step until the host resumes; a well-defined state (60_exceptions.md R285, R305). -/
def Halted (s : State) : Prop := s.run = false ∧ s.fault = none

/-- Faulted: terminal; nothing may be claimed of the state but the record (60_exceptions.md R285, R286). -/
def Faulted (s : State) : Prop := s.fault ≠ none

/-- `t` ends a run in a mode: the state right after a step from `s` that executes HLT, with `pc` the address of the HLT plus 1
(60_exceptions.md R300). -/
def EndsRun (mode : UnsourcedMode) (s t : State) : Prop :=
  Enabled s ∧ s.opcode = 0x76#8 ∧ stepIn mode s = .next t ∧ Halted t ∧ t.pc = s.pc + 1

/-- The machine's invariant, a claim about its view: memory in canonical form while no fault is recorded; of a faulted machine
only that the record names a Tier G opcode (60_exceptions.md R281, R282; R286 allows no claim about the rest of it). -/
def Sound (s : State) : Prop :=
  match s.view with
  | .unfaulted u => Memory.wf u.mem = true
  | .faulted r => tierOf r.opcode = .g

/-! ## Readings of the rules -/

/-- The number of 1 bits (00_scope.md R6). -/
def onesIn (v : Byte) : Nat := (List.range 8).countP fun i => v.getLsbD i

/-- `Z`, `S` and `P` of a result (10_state.md R28). -/
def ResultFlags (v : Byte) (f : Flags) : Prop :=
  f.z = decide (v.toNat = 0) ∧ f.s = v.msb ∧ f.p = decide (onesIn v % 2 = 0)

/-- The high half of a 16-bit value, as arithmetic (00_scope.md R5: `{a, b} = a * 256 + b`). -/
def highHalf (v : Word) : Byte := BitVec.ofNat 8 (v.toNat / 256)

/-- The low half of a 16-bit value, as arithmetic (00_scope.md R5). -/
def lowHalf (v : Word) : Byte := BitVec.ofNat 8 (v.toNat % 256)

/-- `{a, b} = a * 256 + b` (00_scope.md R5). -/
def pairOf (high low : Byte) : Word := BitVec.ofNat 16 (high.toNat * 256 + low.toNat)

/-- The address of the `M` operand: `HL` (10_state.md R22). -/
def addressM (s : State) : Word := pairOf s.regs.h s.regs.l

/-- The byte an ALU instruction takes besides A (41_alu8.md: `r[s]`, `MemRead(HL, 1)` or `d8`). -/
def sourceByte (s : State) : AluSrc → Byte
  | .reg r => s.regs.get r
  | .m => s.readByte (addressM s)
  | .imm d8 => d8

/-- `pc` after an ALU instruction: 2 bytes on for the immediate forms, else 1 (41_alu8.md). -/
def afterAlu (s : State) : AluSrc → Word
  | .reg _ => s.pc + 1
  | .m => s.pc + 1
  | .imm _ => s.pc + 2

/-- The condition table (30_encoding.md R76). -/
def ConditionHolds (f : Flags) : Cond → Prop
  | .nz => f.z = false
  | .z => f.z = true
  | .nc => f.cy = false
  | .c => f.cy = true
  | .po => f.p = false
  | .pe => f.p = true
  | .p => f.s = false
  | .m => f.s = true

/-- The conditions the source names (30_encoding.md R76, tier S). -/
def sourcedConditions : List Cond := [.nz, .z, .nc, .c, .po, .pe]

/-- The two conditions on the Sign flag (30_encoding.md R76, tier G). -/
def signConditions : List Cond := [.p, .m]

/-- The value of a pair (10_state.md R21, 40_step.md R104). -/
def pairValue (s : State) : Pair → Word
  | .bc => pairOf s.regs.b s.regs.c
  | .de => pairOf s.regs.d s.regs.e
  | .hl => pairOf s.regs.h s.regs.l
  | .sp => s.sp

/-- The registers and `sp` after a pair is written, nothing else of them changed (40_step.md R104). -/
def PairWritten (s t : State) (v : Word) : Pair → Prop
  | .bc => t.regs = { s.regs with b := highHalf v, c := lowHalf v } ∧ t.sp = s.sp
  | .de => t.regs = { s.regs with d := highHalf v, e := lowHalf v } ∧ t.sp = s.sp
  | .hl => t.regs = { s.regs with h := highHalf v, l := lowHalf v } ∧ t.sp = s.sp
  | .sp => t.regs = s.regs ∧ t.sp = v

/-! ## Frames -/

/-- Every byte of memory reads as before. -/
def SameMemory (s t : State) : Prop := ∀ a, t.readByte a = s.readByte a

/-- Every byte of memory outside the listed addresses reads as before. -/
def SameMemoryOutside (stored : List Word) (s t : State) : Prop := ∀ a, a ∉ stored → t.readByte a = s.readByte a

/-- Every register but one is unchanged. -/
def SameRegsBut (r : Reg) (s t : State) : Prop := ∀ q, q ≠ r → t.regs.get q = s.regs.get q

/-- The run flag, the fault record and the two fields of the model's own are unchanged. -/
def SameControl (s t : State) : Prop :=
  t.run = s.run ∧ t.fault = s.fault ∧ t.ioCount = s.ioCount ∧ t.outEvents = s.outEvents

/-- The instructions that write `Z`, `S` and `P` (10_state.md R29). -/
def writesZSP : Form → Bool
  | .alu _ _ | .inr _ | .dcr _ | .popPsw => true
  | _ => false

/-- The instructions that write `CY` (10_state.md R29). -/
def writesCY : Form → Bool
  | .alu _ _ | .dad _ | .rlc | .rrc | .ral | .rar | .stc | .cmc | .popPsw => true
  | _ => false

/-- The instructions that write `AC` (10_state.md R29). -/
def writesAC : Form → Bool
  | .alu _ _ | .inr _ | .dcr _ | .popPsw => true
  | _ => false

/-- The instructions that write memory (20_memory.md R54). -/
def writesMemory : Form → Bool
  | .inr .m | .dcr .m | .movMR _ | .mvi .m _ | .sta _ | .stax _ | .shld _ | .call _ | .callIf _ _ | .rst _ | .push _
  | .pushPsw | .xthl => true
  | _ => false

/-- By how much an instruction may move `sp` as a push or a pop does (10_state.md R27). -/
def stackMoves : Form → List Word
  | .push _ | .pushPsw | .call _ | .rst _ => [-2]
  | .callIf _ _ => [0, -2]
  | .pop _ | .popPsw | .ret => [2]
  | .retIf _ => [0, 2]
  | _ => [0]

/-- The instructions that write `sp` as a register (10_state.md R27). -/
def writesSP : Form → Bool
  | .lxi .sp _ | .inx .sp | .dcx .sp | .sphl => true
  | _ => false

/-- The 26 opcode bytes of length 3 (30_encoding.md R72). -/
def threeByteOpcodes : List Byte :=
  [0x01#8, 0x11#8, 0x21#8, 0x31#8, 0x22#8, 0x2A#8, 0x32#8, 0x3A#8, 0xC2#8, 0xCA#8, 0xD2#8, 0xDA#8, 0xE2#8, 0xEA#8, 0xF2#8,
   0xFA#8, 0xC3#8, 0xC4#8, 0xCC#8, 0xD4#8, 0xDC#8, 0xE4#8, 0xEC#8, 0xF4#8, 0xFC#8, 0xCD#8]

/-- The 18 opcode bytes of length 2 (30_encoding.md R72). -/
def twoByteOpcodes : List Byte :=
  [0x06#8, 0x0E#8, 0x16#8, 0x1E#8, 0x26#8, 0x2E#8, 0x36#8, 0x3E#8, 0xC6#8, 0xCE#8, 0xD6#8, 0xDE#8, 0xE6#8, 0xEE#8, 0xF6#8,
   0xFE#8, 0xD3#8, 0xDB#8]

end Sys2Proof.Machine
end

