-- ==== Sys2Proof/Certificates/Slice0/Obligations.lean ====
section
/-! DEFINITION. The statements for the provers, from the numbered rules of spec/. A statement about an instruction's result
is also its completion: its conclusion is that `exec` answers a next state, for every state and every operand. Where a
statement repeats an encoding, the pattern is that of the rules it cites; which byte value stands for which instruction is, but
for the six that the source prints (R89), the spec's from general knowledge (D22, log 3). -/

open Sys2Proof Sys2Proof.Machine

/-! ## Encoding -/

/-- For every instruction and every operand value, decoding its encoding gives it back, with the bytes after it untouched.
The opcode map (30_encoding.md section 4) and the field codes (section 2) are the spec's from general knowledge (D22). -/
def Obligations.DecodeOfEncodeIsInstruction : Prop :=
  ∀ (i : Instr) (rest : List Byte), decode (encode i ++ rest) = .ok (i, rest)

/-- The other direction: whatever decodes is the encoding of what it decodes to, so no byte has two meanings and no bit of
an encoding is dropped. -/
def Obligations.EncodeOfDecodeIsBytes : Prop :=
  ∀ (bytes rest : List Byte) (i : Instr), decode bytes = .ok (i, rest) → bytes = encode i ++ rest

/-- The length is a function of the opcode byte alone, 3 for the 26 listed bytes, 2 for the 18 listed, else 1, and every
opcode byte with its operand bytes decodes (30_encoding.md R72, R84, R86; the byte values are D22's). -/
def Obligations.EveryOpcodeDecodesAtItsLength : Prop :=
  ∀ (op : Byte) (rest : List Byte),
    opLength op = (if op ∈ threeByteOpcodes then 3 else if op ∈ twoByteOpcodes then 2 else 1) ∧
      (opLength op ≤ rest.length + 1 → ∃ i, decode (op :: rest) = .ok (i, rest.drop (opLength op - 1)) ∧
        (encode i).length = opLength op)

/-- The six byte values that the source prints (30_encoding.md R89), as words of the opcode table, and that 0x08 executed
alone only advances `pc` by one, in either mode. -/
def Obligations.PrintedBytesDecode : Prop :=
  decodeTableWord 16 0x0506 = some (.mviB 0x05#8) ∧ decodeTableWord 8 0x3C = some .inrA ∧
    decodeTableWord 8 0x76 = some .hlt ∧ decodeTableWord 16 0x103E = some (.mviA 0x10#8) ∧
    decodeTableWord 16 0x01D6 = some (.sui 0x01#8) ∧ decodeTableWord 8 0x08 = some .nop08 ∧
    ∀ (mode : UnsourcedMode) (s : State), Enabled s → s.readByte s.pc = 0x08#8 →
      stepIn mode s = .next { s with pc := s.pc + 1 }

/-! ## The step -/

/-- In mode `execute`, the spec's decision D4 (log 3), a step of an enabled machine is `exec` of the instruction its bytes at
`pc` decode to; nothing is added around it (the advance of `pc` is part of each meaning). In mode `fault` the Tier G bytes
raise instead (FaultModeRaisesOnTierG) and the others run the same (ModesAgreeOffTierG). -/
def Obligations.StepRunsDecodedInstruction : Prop :=
  ∀ (s : State) (i : Instr) (rest : List Byte),
    Enabled s → decode s.fetchBytes = .ok (i, rest) → step s = exec i s

/-- The same from the bytes in memory: where the bytes from `pc` on (addresses wrap, D10, log 14) are the encoding of `i`, the step is
`exec i`; in mode `fault` too unless the opcode is Tier G. -/
def Obligations.StepRunsEncodedInstruction : Prop :=
  ∀ (mode : UnsourcedMode) (s : State) (i : Instr), Enabled s →
    (∀ (k : Nat) (h : k < (encode i).length), s.readByte (s.pc + BitVec.ofNat 16 k) = (encode i)[k]) →
    (mode = .fault → s.readByte s.pc ∉ tierGOpcodes) → stepIn mode s = exec i s

/-- While `run` is false and no fault is recorded the engine does nothing (40_step.md section 1, D20). That `step` then
answers the same state is the model's choice, log 11. -/
def Obligations.NotRunningChangesNothing : Prop :=
  ∀ (mode : UnsourcedMode) (s : State), Halted s → stepIn mode s = .next s

/-- A faulted machine never steps again, in either mode and whatever the driver does (60_exceptions.md section 1). That `step`
answers a fault that carries the record is the model's choice, log 12. -/
def Obligations.FaultedMachineNeverSteps : Prop :=
  ∀ (mode : UnsourcedMode) (s : State) (r : FaultRecord) (move : DriverMove), s.fault = some r →
    stepIn mode s = .fault (.unimplementedOpcode r.opcode r.address) ∧
      stepIn mode (s.drive move) = .fault (.unimplementedOpcode r.opcode r.address)

/-- In mode `execute` (D4, log 3) no step blocks, stops or raises (60_exceptions.md section 1: "A step never blocks and never
fails for valid opcodes"). With `run` false no step is enabled, and that `step` answers a next state there too, the same
state, is the model's choice, log 11. -/
def Obligations.ExecuteModeNeverStops : Prop :=
  ∀ s : State, s.fault = none → ∃ t, step s = .next t ∧ t.fault = none

/-- In mode `fault` each of the 32 Tier G bytes raises: the record holds the byte and its address (60_exceptions.md section 1,
D4), and no step follows in either mode (log 12). -/
def Obligations.FaultModeRaisesOnTierG : Prop :=
  ∀ s : State, Enabled s → s.readByte s.pc ∈ tierGOpcodes →
    ∃ t, stepIn .fault s = .next t ∧ t.fault = some { opcode := s.readByte s.pc, address := s.pc } ∧
      ∀ mode u, stepIn mode t ≠ .next u

/-- The two modes differ on Tier G bytes only: Tier S and Tier U never fault in either (00_scope.md section 5). -/
def Obligations.ModesAgreeOffTierG : Prop :=
  ∀ s : State, s.readByte s.pc ∉ tierGOpcodes → stepIn .fault s = stepIn .execute s

/-! ## Reset, image, driver -/

/-- After reset the seven registers are zero and the run flag is false, and no step is enabled until the driver sets it. -/
def Obligations.ResetRegistersAndRunFlag : Prop :=
  (∀ r : Reg, State.reset.regs.get r = 0) ∧ State.reset.run = false ∧ ¬ Enabled State.reset ∧
    Enabled (State.reset.drive .resume)

/-- The rest of the reset state: `pc` 0 and no fault (derived by the spec, D25), `sp` the open parameter (log 1), flags false
(decided by the spec, D2, log 2), memory zero. -/
def Obligations.ResetDecidedValues : Prop :=
  State.reset.pc = 0 ∧ State.reset.sp = Config.spReset ∧ State.reset.fault = none ∧
    State.reset.flags = { z := false, s := false, p := false, cy := false, ac := false } ∧
    ∀ a : Word, State.reset.readByte a = 0

/-- A machine created from an image of at most 65,536 bytes (the bound is the spec's decision D14, log 15) holds the image from
address 0 and 0x00 elsewhere. Its registers, `run` and fault record are the reset ones, its `sp` is the open parameter it was
given (D1, log 1), its `pc` and its flags are the values that the spec derives (D25, log 4) and decides (D2, log 2). -/
def Obligations.CreatedMachineHoldsImage : Prop :=
  ∀ (spReset : Word) (image : List Byte), image.length ≤ 65536 →
    ∃ s, State.create spReset image = .ok s ∧ (∀ a : Word, s.readByte a = image.getD a.toNat 0) ∧ s.sp = spReset ∧
      s.regs = State.reset.regs ∧ s.pc = State.reset.pc ∧ s.flags = State.reset.flags ∧ s.run = false ∧ s.fault = none

/-- An image of more than 65,536 bytes is refused and no machine exists (70_reset_and_hazards.md section 1, D14). -/
def Obligations.LongImageIsRefused : Prop :=
  ∀ (spReset : Word) (image : List Byte), 65536 < image.length →
    State.create spReset image = .error (.imageTooLong image.length)

/-- The driver writes only `run` (60_exceptions.md section 4); on a faulted machine it changes nothing (log 12). -/
def Obligations.DriverWritesOnlyRun : Prop :=
  ∀ s : State, (s.fault = none → s.drive .resume = { s with run := true } ∧ s.drive .pause = { s with run := false }) ∧
    (Faulted s → ∀ move, s.drive move = s)

/-! ## Memory -/

/-- After any list of writes, a read returns the most recent write to its address, and where none went to it what it held
before. The premise holds of every machine that is `Sound`. -/
def Obligations.ReadReturnsLastWrite : Prop :=
  ∀ (s : State) (writes : List (Word × Byte)) (a : Word), Memory.wf s.mem = true →
    (writes.foldl (fun t w => t.writeByte w.1 w.2) s).readByte a =
      ((writes.reverse.find? fun w => w.1 == a).map Prod.snd).getD (s.readByte a)

/-- A 16-bit access is two bytes, the low byte at the lower address, the second address modulo 65,536 (20_memory.md section 2;
the wrap of the second address is D10, log 14), and a 16-bit read returns the 16-bit write. -/
def Obligations.WordAccessIsLittleEndian : Prop :=
  ∀ (s : State) (a v : Word), Memory.wf s.mem = true →
    (s.writeWord a v).readByte a = lowHalf v ∧ (s.writeWord a v).readByte (a + 1) = highHalf v ∧
      SameMemoryOutside [a, a + 1] s (s.writeWord a v) ∧ (s.writeWord a v).readWord a = v ∧
      s.readWord a = pairOf (s.readByte (a + 1)) (s.readByte a)

/-! ## The whole machine -/

/-- Every step of every machine, in either mode, keeps the invariant (memory canonical while no fault is recorded, else a
record of a Tier G byte), and a record it leaves holds `pc` and the byte there as they were BEFORE the step. Nothing is
claimed of a faulted machine but its record (60_exceptions.md section 1; D15, log 12). -/
def Obligations.StepKeepsSound : Prop :=
  ∀ (mode : UnsourcedMode) (s t : State), Sound s → stepIn mode s = .next t →
    Sound t ∧ ∀ r, t.fault = some r → r.address = s.pc ∧ r.opcode = s.readByte s.pc

/-- The invariant holds at reset and of every created machine, and the driver keeps it (on a faulted machine a move has no
effect, and the invariant speaks of its record only, log 12). -/
def Obligations.SoundAtCreationAndUnderDriver : Prop :=
  Sound State.reset ∧ (∀ spReset image s, State.create spReset image = .ok s → Sound s) ∧
    ∀ s move, Sound s → Sound (s.drive move)

/-- So does every history of steps and moves of the driver, in either mode (60_exceptions.md section 4: they alternate and
never overlap). Where it ends in a faulted machine the invariant speaks of the record only (D15, log 12). -/
def Obligations.HistoriesKeepSound : Prop :=
  ∀ (mode : UnsourcedMode) (events : List Event) (s t : State), Sound s → s.history mode events = .next t → Sound t

/-- No step sets `run` to true, and only HLT sets it to false (10_state.md section 5, opcode byte of HLT: section 7 of
30_encoding.md). Nothing is said of `run` after a raise (D15, log 12). -/
def Obligations.RunFlagFallsOnlyAtHlt : Prop :=
  ∀ (mode : UnsourcedMode) (s t : State), stepIn mode s = .next t → t.fault = none →
    (t.run = true → s.run = true) ∧ (s.run = true → t.run = false → s.readByte s.pc = 0x76#8)

/-- The flag table of 10_state.md section 4: an instruction that does not declare a flag leaves it (the rows of INR, DCR and
the Tier G instructions are the spec's from general knowledge, D7). -/
def Obligations.UndeclaredFlagsAreKept : Prop :=
  ∀ (i : Instr) (s t : State), exec i s = .next t →
    (writesZSP i.form = false → t.flags.z = s.flags.z ∧ t.flags.s = s.flags.s ∧ t.flags.p = s.flags.p) ∧
      (writesCY i.form = false → t.flags.cy = s.flags.cy) ∧ (writesAC i.form = false → t.flags.ac = s.flags.ac)

/-- `sp` is written only by LXI SP, INX SP, DCX SP, SPHL, and by two down or up by the stack instructions (10_state.md section
3; modulo 65,536, the spec's decision D10, log 14). -/
def Obligations.StackPointerMovesOnlyAsDeclared : Prop :=
  ∀ (i : Instr) (s t : State), exec i s = .next t → writesSP i.form = false →
    ∃ d ∈ stackMoves i.form, t.sp = s.sp + d

/-- An instruction that 20_memory.md section 4 does not list as writing memory changes no byte of it. -/
def Obligations.OnlyStoresWriteMemory : Prop :=
  ∀ (i : Instr) (s t : State), exec i s = .next t → writesMemory i.form = false → SameMemory s t

/-- Only IN draws from the open input and only OUT adds an output event; no instruction sets the fault record (the two fields
are the model's own, log 5 and log 6). -/
def Obligations.OnlyPortInstructionsTouchPorts : Prop :=
  ∀ (i : Instr) (s t : State), exec i s = .next t →
    t.fault = s.fault ∧ ((∀ d8, i ≠ .inPort d8) → t.ioCount = s.ioCount) ∧
      ((∀ d8, i ≠ .outPort d8) → t.outEvents = s.outEvents)

/-! ## 8-bit arithmetic and logic -/

/-- ADD, ADC, ADI, ACI over `r`, `M` and `d8`: the sum modulo 256, with the carry in for ADC and ACI; `CY` the carry out of bit
7, `AC` out of bit 3; and their encodings. -/
def Obligations.AddAndAddWithCarry : Prop :=
  (∀ r : Reg, encode (Form.alu .add (.reg r)).instr = [0b10000#5 ++ r.code] ∧
      encode (Form.alu .adc (.reg r)).instr = [0b10001#5 ++ r.code]) ∧
    encode .addM = [0b10000110#8] ∧ encode .adcM = [0b10001110#8] ∧
    (∀ d8, encode (.adi d8) = [0b11000110#8, d8] ∧ encode (.aci d8) = [0b11001110#8, d8]) ∧
    ∀ (s : State) (src : AluSrc) (withCarry : Bool),
      let x := s.regs.a.toNat
      let y := (sourceByte s src).toNat
      let cin := if withCarry = true ∧ s.flags.cy = true then 1 else 0
      ∃ t, exec (Form.alu (if withCarry then .adc else .add) src).instr s = .next t ∧
        t.regs.a.toNat = (x + y + cin) % 256 ∧ ResultFlags t.regs.a t.flags ∧
        t.flags.cy = decide (x + y + cin > 255) ∧ t.flags.ac = decide (x % 16 + y % 16 + cin > 15) ∧
        t.pc = afterAlu s src ∧
        SameRegsBut .a s t ∧ t.sp = s.sp ∧ SameMemory s t ∧ SameControl s t

/-- SUB, SBB, SUI, SBI over `r`, `M` and `d8`: the difference modulo 256, `CY` the borrow (C2); `AC` the raw nibble carry, which
is the spec's decision D3 (log 8). -/
def Obligations.SubtractAndSubtractWithBorrow : Prop :=
  ∀ (s : State) (src : AluSrc) (withBorrow : Bool),
    let x := s.regs.a.toNat
    let y := (sourceByte s src).toNat
    let bin := if withBorrow = true ∧ s.flags.cy = true then 1 else 0
    ∃ t, exec (Form.alu (if withBorrow then .sbb else .sub) src).instr s = .next t ∧
      t.regs.a.toNat = (x + 256 - y - bin) % 256 ∧ ResultFlags t.regs.a t.flags ∧
      t.flags.cy = decide (x < y + bin) ∧ t.flags.ac = decide (x % 16 ≥ y % 16 + bin) ∧ t.pc = afterAlu s src ∧
      SameRegsBut .a s t ∧ t.sp = s.sp ∧ SameMemory s t ∧ SameControl s t

/-- ANA, XRA, ORA, ANI, XRI, ORI over `r`, `M` and `d8`, bit by bit; `CY` and `AC` false (the spec's derivation and decision
D8, log 9). -/
def Obligations.LogicOperations : Prop :=
  ∀ (s : State) (src : AluSrc) (op : AluOp), op = .ana ∨ op = .xra ∨ op = .ora →
    ∃ t, exec (Form.alu op src).instr s = .next t ∧
      (∀ k, k < 8 → t.regs.a.getLsbD k =
        match op with
        | .ana => s.regs.a.getLsbD k && (sourceByte s src).getLsbD k
        | .xra => s.regs.a.getLsbD k != (sourceByte s src).getLsbD k
        | _ => s.regs.a.getLsbD k || (sourceByte s src).getLsbD k) ∧
      ResultFlags t.regs.a t.flags ∧ t.flags.cy = false ∧ t.flags.ac = false ∧ t.pc = afterAlu s src ∧
      SameRegsBut .a s t ∧ t.sp = s.sp ∧ SameMemory s t ∧ SameControl s t

/-- CMP and CPI over `r`, `M` and `d8`: every register unchanged, the flags of the subtraction; after it `Z` says equal and
`CY` says below (`AC` is the spec's decision D3, log 8). -/
def Obligations.CompareOperations : Prop :=
  ∀ (s : State) (src : AluSrc),
    let x := s.regs.a.toNat
    let y := (sourceByte s src).toNat
    ∃ t, exec (Form.alu .cmp src).instr s = .next t ∧
      ResultFlags (BitVec.ofNat 8 (x + 256 - y)) t.flags ∧ t.flags.z = decide (x = y) ∧ t.flags.cy = decide (x < y) ∧
      t.flags.ac = decide (x % 16 ≥ y % 16) ∧ t.pc = afterAlu s src ∧
      t.regs = s.regs ∧ t.sp = s.sp ∧ SameMemory s t ∧ SameControl s t

/-- INR r and DCR r: the register plus or minus one modulo 256; `Z S P AC` written and `CY` kept (the spec's decision D7, log
10; `AC` after DCR, D3, log 8). -/
def Obligations.CountRegister : Prop :=
  ∀ (s : State) (r : Reg),
    (∃ t, exec (Form.inr (.reg r)).instr s = .next t ∧ (t.regs.get r).toNat = ((s.regs.get r).toNat + 1) % 256 ∧
      ResultFlags (t.regs.get r) t.flags ∧ t.flags.ac = decide ((s.regs.get r).toNat % 16 = 15) ∧
      t.flags.cy = s.flags.cy ∧ t.pc = s.pc + 1 ∧ SameRegsBut r s t ∧ t.sp = s.sp ∧ SameMemory s t ∧ SameControl s t) ∧
    ∃ t, exec (Form.dcr (.reg r)).instr s = .next t ∧ (t.regs.get r).toNat = ((s.regs.get r).toNat + 255) % 256 ∧
      ResultFlags (t.regs.get r) t.flags ∧ t.flags.ac = decide ((s.regs.get r).toNat % 16 ≠ 0) ∧
      t.flags.cy = s.flags.cy ∧ t.pc = s.pc + 1 ∧ SameRegsBut r s t ∧ t.sp = s.sp ∧ SameMemory s t ∧ SameControl s t

/-- INR M and DCR M: the byte at `HL` plus or minus one modulo 256, every other byte and every register unchanged; the flags
as for registers (D7, log 10; D3, log 8). -/
def Obligations.CountMemory : Prop :=
  ∀ s : State, Memory.wf s.mem = true →
    let v := s.readByte (addressM s)
    (∃ t, exec .inrM s = .next t ∧ (t.readByte (addressM s)).toNat = (v.toNat + 1) % 256 ∧
      ResultFlags (t.readByte (addressM s)) t.flags ∧ t.flags.ac = decide (v.toNat % 16 = 15) ∧
      t.flags.cy = s.flags.cy ∧ t.pc = s.pc + 1 ∧ t.regs = s.regs ∧ t.sp = s.sp ∧
      SameMemoryOutside [addressM s] s t ∧ SameControl s t) ∧
    ∃ t, exec .dcrM s = .next t ∧ (t.readByte (addressM s)).toNat = (v.toNat + 255) % 256 ∧
      ResultFlags (t.readByte (addressM s)) t.flags ∧ t.flags.ac = decide (v.toNat % 16 ≠ 0) ∧
      t.flags.cy = s.flags.cy ∧ t.pc = s.pc + 1 ∧ t.regs = s.regs ∧ t.sp = s.sp ∧
      SameMemoryOutside [addressM s] s t ∧ SameControl s t

/-- DAA changes nothing but `pc`. -/
def Obligations.DecimalAdjustIsNoOperation : Prop :=
  encode .daa = [0b00100111#8] ∧ ∀ s : State, exec .daa s = .next { s with pc := s.pc + 1 }

/-! ## Pairs, rotates, carry -/

/-- INX and DCX over BC, DE, HL and `sp`: plus or minus one modulo 65,536, no flag (that pair code 3 is `sp` is the spec's from
general knowledge, G8). -/
def Obligations.CountPair : Prop :=
  ∀ (s : State) (p : Pair),
    (∃ t v, exec (Form.inx p).instr s = .next t ∧ v.toNat = ((pairValue s p).toNat + 1) % 65536 ∧ PairWritten s t v p ∧
      t.flags = s.flags ∧ t.pc = s.pc + 1 ∧ SameMemory s t ∧ SameControl s t) ∧
    ∃ t v, exec (Form.dcx p).instr s = .next t ∧ v.toNat = ((pairValue s p).toNat + 65535) % 65536 ∧ PairWritten s t v p ∧
      t.flags = s.flags ∧ t.pc = s.pc + 1 ∧ SameMemory s t ∧ SameControl s t

/-- DAD (Tier G, D4, log 3): `HL` plus the pair modulo 65,536; `CY` is the carry out of bit 15; no other flag. -/
def Obligations.AddPair : Prop :=
  ∀ (s : State) (p : Pair),
    let sum := (pairValue s .hl).toNat + (pairValue s p).toNat
    ∃ t v, exec (Form.dad p).instr s = .next t ∧ v.toNat = sum % 65536 ∧ PairWritten s t v .hl ∧
      t.flags = { s.flags with cy := decide (sum > 65535) } ∧ t.pc = s.pc + 1 ∧ SameMemory s t ∧ SameControl s t

/-- RLC, RRC, RAL, RAR (Tier G, D4, log 3): where every bit of A and the carry go; only `CY` among the flags is written. -/
def Obligations.RotateAccumulator : Prop :=
  ∀ s : State,
    let Rotated := fun (t : State) (cy : Bool) => t.flags = { s.flags with cy := cy } ∧ t.pc = s.pc + 1 ∧
      SameRegsBut .a s t ∧ t.sp = s.sp ∧ SameMemory s t ∧ SameControl s t
    (∃ t, exec .rlc s = .next t ∧ Rotated t (s.regs.a.getLsbD 7) ∧ t.regs.a.getLsbD 0 = s.regs.a.getLsbD 7 ∧
      ∀ k, k < 7 → t.regs.a.getLsbD (k + 1) = s.regs.a.getLsbD k) ∧
    (∃ t, exec .rrc s = .next t ∧ Rotated t (s.regs.a.getLsbD 0) ∧ t.regs.a.getLsbD 7 = s.regs.a.getLsbD 0 ∧
      ∀ k, k < 7 → t.regs.a.getLsbD k = s.regs.a.getLsbD (k + 1)) ∧
    (∃ t, exec .ral s = .next t ∧ Rotated t (s.regs.a.getLsbD 7) ∧ t.regs.a.getLsbD 0 = s.flags.cy ∧
      ∀ k, k < 7 → t.regs.a.getLsbD (k + 1) = s.regs.a.getLsbD k) ∧
    ∃ t, exec .rar s = .next t ∧ Rotated t (s.regs.a.getLsbD 0) ∧ t.regs.a.getLsbD 7 = s.flags.cy ∧
      ∀ k, k < 7 → t.regs.a.getLsbD k = s.regs.a.getLsbD (k + 1)

/-- CMA, CMC, STC (Tier G, D4, log 3): A becomes 0xFF - A with no flag; `CY` is complemented or set with nothing else. -/
def Obligations.ComplementAndCarry : Prop :=
  ∀ s : State,
    (∃ t, exec .cma s = .next t ∧ t.regs.a.toNat = 255 - s.regs.a.toNat ∧ t.flags = s.flags ∧ t.pc = s.pc + 1 ∧
      SameRegsBut .a s t ∧ t.sp = s.sp ∧ SameMemory s t ∧ SameControl s t) ∧
    exec .cmc s = .next { s with flags := { s.flags with cy := !s.flags.cy }, pc := s.pc + 1 } ∧
    exec .stc s = .next { s with flags := { s.flags with cy := true }, pc := s.pc + 1 }

/-! ## Data movement -/

/-- MOV r,r': the destination takes the source's value, nothing else but `pc` changes; a self-copy changes only `pc`. -/
def Obligations.MoveRegister : Prop :=
  ∀ dst src : Reg, encode (Form.movRR dst src).instr = [0b01#2 ++ dst.code ++ src.code] ∧
    ∀ s : State, ∃ t, exec (Form.movRR dst src).instr s = .next t ∧ t.regs.get dst = s.regs.get src ∧
      SameRegsBut dst s t ∧ (dst = src → t.regs = s.regs) ∧ t.pc = s.pc + 1 ∧ t.flags = s.flags ∧ t.sp = s.sp ∧
      SameMemory s t ∧ SameControl s t

/-- MOV r,M reads through the old `HL`; MOV M,r stores the register (its old value, also for H and L) at `HL`. -/
def Obligations.MoveMemory : Prop :=
  ∀ r : Reg, encode (Form.movRM r).instr = [0b01#2 ++ r.code ++ 0b110#3] ∧
    encode (Form.movMR r).instr = [0b01110#5 ++ r.code] ∧
    ∀ s : State, Memory.wf s.mem = true →
      (∃ t, exec (Form.movRM r).instr s = .next t ∧ t.regs.get r = s.readByte (addressM s) ∧ SameRegsBut r s t ∧
        t.pc = s.pc + 1 ∧ t.flags = s.flags ∧ t.sp = s.sp ∧ SameMemory s t ∧ SameControl s t) ∧
      ∃ t, exec (Form.movMR r).instr s = .next t ∧ t.readByte (addressM s) = s.regs.get r ∧
        SameMemoryOutside [addressM s] s t ∧ t.pc = s.pc + 1 ∧ t.flags = s.flags ∧ t.regs = s.regs ∧ t.sp = s.sp ∧
        SameControl s t

/-- MVI r,d8 and MVI M,d8. -/
def Obligations.MoveImmediate : Prop :=
  ∀ d8 : Byte,
    (∀ r : Reg, encode (Form.mvi (.reg r) d8).instr = [0b00#2 ++ r.code ++ 0b110#3, d8] ∧
      ∀ s : State, ∃ t, exec (Form.mvi (.reg r) d8).instr s = .next t ∧ t.regs.get r = d8 ∧ SameRegsBut r s t ∧
        t.pc = s.pc + 2 ∧ t.flags = s.flags ∧ t.sp = s.sp ∧ SameMemory s t ∧ SameControl s t) ∧
    encode (.mviM d8) = [0b00110110#8, d8] ∧
    ∀ s : State, Memory.wf s.mem = true → ∃ t, exec (.mviM d8) s = .next t ∧ t.readByte (addressM s) = d8 ∧
      SameMemoryOutside [addressM s] s t ∧ t.pc = s.pc + 2 ∧ t.flags = s.flags ∧ t.regs = s.regs ∧ t.sp = s.sp ∧
      SameControl s t

/-- LXI rp,d16: the pair or `sp` takes the immediate, which the encoding holds low byte first. -/
def Obligations.LoadPairImmediate : Prop :=
  ∀ (p : Pair) (d16 : Word),
    encode (Form.lxi p d16).instr = [0b00#2 ++ p.code ++ 0b0001#4, lowHalf d16, highHalf d16] ∧
    ∀ s : State, ∃ t, exec (Form.lxi p d16).instr s = .next t ∧ PairWritten s t d16 p ∧ t.pc = s.pc + 3 ∧
      t.flags = s.flags ∧ SameMemory s t ∧ SameControl s t

/-- LDA and STA through a direct address, LDAX and STAX through BC or DE; the pair is not modified. -/
def Obligations.AccumulatorLoadAndStore : Prop :=
  (∀ adr, encode (.lda adr) = [0b00111010#8, lowHalf adr, highHalf adr] ∧
      encode (.sta adr) = [0b00110010#8, lowHalf adr, highHalf adr]) ∧
    encode .ldaxB = [0x0A#8] ∧ encode .ldaxD = [0x1A#8] ∧ encode .staxB = [0x02#8] ∧ encode .staxD = [0x12#8] ∧
    ∀ (s : State) (adr : Word),
      let Loaded := fun (t : State) (from_ len : Word) => t.regs.a = s.readByte from_ ∧ SameRegsBut .a s t ∧
        t.pc = s.pc + len ∧ t.flags = s.flags ∧ t.sp = s.sp ∧ SameMemory s t ∧ SameControl s t
      let Stored := fun (t : State) (to_ len : Word) => t.readByte to_ = s.regs.a ∧ SameMemoryOutside [to_] s t ∧
        t.regs = s.regs ∧ t.pc = s.pc + len ∧ t.flags = s.flags ∧ t.sp = s.sp ∧ SameControl s t
      (∃ t, exec (.lda adr) s = .next t ∧ Loaded t adr 3) ∧
      (∃ t, exec .ldaxB s = .next t ∧ Loaded t (pairOf s.regs.b s.regs.c) 1) ∧
      (∃ t, exec .ldaxD s = .next t ∧ Loaded t (pairOf s.regs.d s.regs.e) 1) ∧
      (Memory.wf s.mem = true →
        (∃ t, exec (.sta adr) s = .next t ∧ Stored t adr 3) ∧
        (∃ t, exec .staxB s = .next t ∧ Stored t (pairOf s.regs.b s.regs.c) 1) ∧
        ∃ t, exec .staxD s = .next t ∧ Stored t (pairOf s.regs.d s.regs.e) 1)

/-- SHLD and LHLD: L at `adr`, H at `adr + 1`, the second address modulo 65,536 (the wrap is the spec's decision D10,
log 14). -/
def Obligations.PairLoadAndStoreDirect : Prop :=
  ∀ (s : State) (adr : Word),
    (∃ t, exec (.lhld adr) s = .next t ∧ t.regs = { s.regs with l := s.readByte adr, h := s.readByte (adr + 1) } ∧
      t.pc = s.pc + 3 ∧ t.flags = s.flags ∧ t.sp = s.sp ∧ SameMemory s t ∧ SameControl s t) ∧
    (Memory.wf s.mem = true → ∃ t, exec (.shld adr) s = .next t ∧ t.readByte adr = s.regs.l ∧
      t.readByte (adr + 1) = s.regs.h ∧ SameMemoryOutside [adr, adr + 1] s t ∧ t.regs = s.regs ∧ t.pc = s.pc + 3 ∧
      t.flags = s.flags ∧ t.sp = s.sp ∧ SameControl s t)

/-- XCHG (Tier G, D4, log 3): HL and DE change places, nothing else but `pc` changes. -/
def Obligations.ExchangePairs : Prop :=
  ∀ s : State, ∃ t, exec .xchg s = .next t ∧
    t.regs = { s.regs with h := s.regs.d, l := s.regs.e, d := s.regs.h, e := s.regs.l } ∧ t.pc = s.pc + 1 ∧
    t.flags = s.flags ∧ t.sp = s.sp ∧ SameMemory s t ∧ SameControl s t

/-! ## Control flow -/

/-- JMP and the six conditional jumps that the source names: `pc` is the address, or three bytes on where the condition does
not hold; nothing else changes. -/
def Obligations.Jumps : Prop :=
  ∀ adr : Word, encode (.jmp adr) = [0b11000011#8, lowHalf adr, highHalf adr] ∧
    (∀ s : State, exec (.jmp adr) s = .next { s with pc := adr }) ∧
    ∀ cond ∈ sourcedConditions,
      encode (Form.jumpIf cond adr).instr = [0b11#2 ++ cond.code ++ 0b010#3, lowHalf adr, highHalf adr] ∧
      ∀ s : State, (ConditionHolds s.flags cond → exec (Form.jumpIf cond adr).instr s = .next { s with pc := adr }) ∧
        (¬ ConditionHolds s.flags cond → exec (Form.jumpIf cond adr).instr s = .next { s with pc := s.pc + 3 })

/-- CALL and the six conditional calls that the source names: the return address, three bytes on, is pushed with its high byte
at `sp - 1` and its low byte at `sp - 2`; where the condition does not hold only `pc` changes. That the stack addresses wrap, for
`sp` 0 and 1, is the spec's decision D10 (log 14). -/
def Obligations.Calls : Prop :=
  ∀ adr : Word, encode (.call adr) = [0b11001101#8, lowHalf adr, highHalf adr] ∧
    (∀ cond ∈ sourcedConditions,
      encode (Form.callIf cond adr).instr = [0b11#2 ++ cond.code ++ 0b100#3, lowHalf adr, highHalf adr]) ∧
    ∀ s : State, Memory.wf s.mem = true →
      let Called := fun t : State => t.readByte (s.sp - 1) = highHalf (s.pc + 3) ∧
        t.readByte (s.sp - 2) = lowHalf (s.pc + 3) ∧ t.sp = s.sp - 2 ∧ t.pc = adr ∧
        SameMemoryOutside [s.sp - 1, s.sp - 2] s t ∧ t.regs = s.regs ∧ t.flags = s.flags ∧ SameControl s t
      (∃ t, exec (.call adr) s = .next t ∧ Called t) ∧
      ∀ cond ∈ sourcedConditions,
        (ConditionHolds s.flags cond → ∃ t, exec (Form.callIf cond adr).instr s = .next t ∧ Called t) ∧
        (¬ ConditionHolds s.flags cond → exec (Form.callIf cond adr).instr s = .next { s with pc := s.pc + 3 })

/-- RET and the six conditional returns that the source names: `pc` from the two bytes at `sp`, low byte first, and `sp + 2`;
where the condition does not hold only `pc` changes. That the stack addresses wrap, for `sp` 0xFFFE and 0xFFFF, is the spec's
decision D10 (log 14). -/
def Obligations.Returns : Prop :=
  encode .ret = [0b11001001#8] ∧
    (∀ cond ∈ sourcedConditions, encode (Form.retIf cond).instr = [0b11#2 ++ cond.code ++ 0b000#3]) ∧
    ∀ s : State,
      let returned := { s with pc := pairOf (s.readByte (s.sp + 1)) (s.readByte s.sp), sp := s.sp + 2 }
      exec .ret s = .next returned ∧
      ∀ cond ∈ sourcedConditions,
        (ConditionHolds s.flags cond → exec (Form.retIf cond).instr s = .next returned) ∧
        (¬ ConditionHolds s.flags cond → exec (Form.retIf cond).instr s = .next { s with pc := s.pc + 1 })

/-- JP, JM, CP, CM, RP, RM (Tier G, D4, D13, log 3): as the other conditional forms, on the Sign flag. That the stack
addresses of the calls and returns wrap is the spec's decision D10 (log 14). -/
def Obligations.SignConditionedTransfers : Prop :=
  ∀ (s : State) (adr : Word), ∀ cond ∈ signConditions, Memory.wf s.mem = true →
    (ConditionHolds s.flags cond →
      exec (Form.jumpIf cond adr).instr s = .next { s with pc := adr } ∧
      (∃ t, exec (Form.callIf cond adr).instr s = .next t ∧ t.readByte (s.sp - 1) = highHalf (s.pc + 3) ∧
        t.readByte (s.sp - 2) = lowHalf (s.pc + 3) ∧ t.sp = s.sp - 2 ∧ t.pc = adr ∧
        SameMemoryOutside [s.sp - 1, s.sp - 2] s t ∧ t.regs = s.regs ∧ t.flags = s.flags ∧ SameControl s t) ∧
      exec (Form.retIf cond).instr s =
        .next { s with pc := pairOf (s.readByte (s.sp + 1)) (s.readByte s.sp), sp := s.sp + 2 }) ∧
    (¬ ConditionHolds s.flags cond →
      exec (Form.jumpIf cond adr).instr s = .next { s with pc := s.pc + 3 } ∧
      exec (Form.callIf cond adr).instr s = .next { s with pc := s.pc + 3 } ∧
      exec (Form.retIf cond).instr s = .next { s with pc := s.pc + 1 })

/-- RST n (Tier G, D4, log 3): a one-byte call to `8 * n`. That the stack addresses wrap, for `sp` 0 and 1, is the spec's
decision D10 (log 14). -/
def Obligations.Restart : Prop :=
  ∀ (s : State) (n : Fin 8), Memory.wf s.mem = true →
    ∃ t, exec (Form.rst n).instr s = .next t ∧ t.pc.toNat = 8 * n.val ∧ t.sp = s.sp - 2 ∧
      t.readByte (s.sp - 1) = highHalf (s.pc + 1) ∧ t.readByte (s.sp - 2) = lowHalf (s.pc + 1) ∧
      SameMemoryOutside [s.sp - 1, s.sp - 2] s t ∧ t.regs = s.regs ∧ t.flags = s.flags ∧ SameControl s t

/-- PCHL and SPHL: `pc` or `sp` takes HL; nothing is pushed. -/
def Obligations.TransfersFromHL : Prop :=
  encode .pchl = [0b11101001#8] ∧ encode .sphl = [0b11111001#8] ∧
    ∀ s : State, exec .pchl s = .next { s with pc := pairOf s.regs.h s.regs.l } ∧
      exec .sphl s = .next { s with sp := pairOf s.regs.h s.regs.l, pc := s.pc + 1 }

/-- HLT clears the run flag with `pc` just past it, in either mode; no step follows until the driver resumes, and then execution
continues there. -/
def Obligations.HaltStopsUntilResumed : Prop :=
  encode .hlt = [0b01110110#8] ∧
    ∀ s : State, exec .hlt s = .next { s with run := false, pc := s.pc + 1 } ∧
      (∀ mode : UnsourcedMode, Enabled s → s.readByte s.pc = 0x76#8 →
        ∃ t, stepIn mode s = .next t ∧ EndsRun mode s t ∧ t.pc = s.pc + 1 ∧ ¬ Enabled t ∧ Enabled (t.drive .resume) ∧
          (t.drive .resume).pc = s.pc + 1)

/-! ## The stack -/

/-- PUSH and POP over BC, DE, HL (the wrap of the stack addresses is the spec's decision D10, log 14). -/
def Obligations.PushAndPopPair : Prop :=
  ∀ (s : State) (p : StackPair), Memory.wf s.mem = true →
    (∃ t, exec (Form.push p).instr s = .next t ∧
      t.readByte (s.sp - 1) = highHalf (pairValue s (stackPair p)) ∧
      t.readByte (s.sp - 2) = lowHalf (pairValue s (stackPair p)) ∧ t.sp = s.sp - 2 ∧ t.pc = s.pc + 1 ∧
      SameMemoryOutside [s.sp - 1, s.sp - 2] s t ∧ t.regs = s.regs ∧ t.flags = s.flags ∧ SameControl s t) ∧
    ∃ t, exec (Form.pop p).instr s = .next t ∧ t.sp = s.sp + 2 ∧ t.pc = s.pc + 1 ∧
      PairWritten { s with sp := s.sp + 2 } t (pairOf (s.readByte (s.sp + 1)) (s.readByte s.sp)) (stackPair p) ∧
      t.flags = s.flags ∧ SameMemory s t ∧ SameControl s t

/-- PUSH rp followed by POP rp leaves the pair and `sp` unchanged, for every `sp` (for 0 and 1 by the wrap, D10, C5, log
14). -/
def Obligations.PushThenPopRestores : Prop :=
  ∀ (s t u : State) (p : StackPair), Memory.wf s.mem = true → exec (Form.push p).instr s = .next t →
    exec (Form.pop p).instr t = .next u → u.regs = s.regs ∧ u.sp = s.sp ∧ u.flags = s.flags

/-- CALL followed by RET leaves `pc` just past the CALL and `sp` unchanged, for every `sp` (where the addresses wrap, by D10,
log 14). -/
def Obligations.CallThenReturnResumes : Prop :=
  ∀ (s t u : State) (adr : Word), Memory.wf s.mem = true → exec (.call adr) s = .next t → exec .ret t = .next u →
    u.pc = s.pc + 3 ∧ u.sp = s.sp

/-- PUSH PSW and POP PSW: A is the high byte, each flag has its bit of the low byte (the layout is the spec's decision D5, log
7; nothing is said of the three bits that hold no flag, U1), and the pair of them restores A and the flags. That the stack
addresses wrap is the spec's decision D10 (log 14). -/
def Obligations.StatusWordPushAndPop : Prop :=
  ∀ s : State, Memory.wf s.mem = true →
    (∃ t, exec .pushPsw s = .next t ∧ t.readByte (s.sp - 1) = s.regs.a ∧
      (t.readByte (s.sp - 2)).getLsbD 7 = s.flags.s ∧ (t.readByte (s.sp - 2)).getLsbD 6 = s.flags.z ∧
      (t.readByte (s.sp - 2)).getLsbD 4 = s.flags.ac ∧ (t.readByte (s.sp - 2)).getLsbD 2 = s.flags.p ∧
      (t.readByte (s.sp - 2)).getLsbD 0 = s.flags.cy ∧ t.sp = s.sp - 2 ∧ t.pc = s.pc + 1 ∧
      SameMemoryOutside [s.sp - 1, s.sp - 2] s t ∧ t.regs = s.regs ∧ t.flags = s.flags ∧ SameControl s t ∧
      ∃ u, exec .popPsw t = .next u ∧ u.regs = s.regs ∧ u.flags = s.flags ∧ u.sp = s.sp) ∧
    ∃ t, exec .popPsw s = .next t ∧ t.regs.a = s.readByte (s.sp + 1) ∧ SameRegsBut .a s t ∧
      t.flags = { s := (s.readByte s.sp).getLsbD 7, z := (s.readByte s.sp).getLsbD 6, ac := (s.readByte s.sp).getLsbD 4,
                  p := (s.readByte s.sp).getLsbD 2, cy := (s.readByte s.sp).getLsbD 0 } ∧
      t.sp = s.sp + 2 ∧ t.pc = s.pc + 1 ∧ SameMemory s t ∧ SameControl s t

/-- XTHL (Tier G, D4, log 3): HL and the two bytes at `sp` change places; `sp` is unchanged. That the second byte's address
wraps, for `sp` 0xFFFF, is the spec's decision D10 (log 14). -/
def Obligations.ExchangeStackTop : Prop :=
  ∀ s : State, Memory.wf s.mem = true → ∃ t, exec .xthl s = .next t ∧
    t.readByte s.sp = s.regs.l ∧ t.readByte (s.sp + 1) = s.regs.h ∧ SameMemoryOutside [s.sp, s.sp + 1] s t ∧
    t.regs = { s.regs with l := s.readByte s.sp, h := s.readByte (s.sp + 1) } ∧ t.sp = s.sp ∧ t.pc = s.pc + 1 ∧
    t.flags = s.flags ∧ SameControl s t

/-! ## No-operation, ports, interrupt control -/

/-- NOP, EI, DI (Tier G, D4, D16, log 3) and the twelve unassigned slots (D12, C1, C4): only `pc` advances, by one. -/
def Obligations.NoOperations : Prop :=
  ∀ s : State, exec .nop s = .next { s with pc := s.pc + 1 } ∧ exec .ei s = .next { s with pc := s.pc + 1 } ∧
    exec .di s = .next { s with pc := s.pc + 1 } ∧
    ∀ slot : Slot, exec (Form.unassigned slot).instr s = .next { s with pc := s.pc + 1 } ∧
      encode (Form.unassigned slot).instr = [slot.byte] ∧ tierOf slot.byte = .u

/-- IN (Tier G, D4, D9, log 3): A takes the open input's value for this execution, whatever it is (a free value, log 5), and no flag
changes. -/
def Obligations.InputTakesOpenValue : Prop :=
  ∀ (s : State) (port : Byte), ∃ t, exec (.inPort port) s = .next t ∧ t.regs.a = Config.ioIn s.ioCount port ∧
    t.ioCount = s.ioCount + 1 ∧ SameRegsBut .a s t ∧ t.flags = s.flags ∧ t.pc = s.pc + 2 ∧ t.sp = s.sp ∧
    SameMemory s t ∧ t.run = s.run ∧ t.fault = s.fault ∧ t.outEvents = s.outEvents

/-- OUT (Tier G, D4, D17, log 3): no core state but `pc` changes; the pair of port and A is added to the output trace (log 6). -/
def Obligations.OutputOnlyRecordsEvent : Prop :=
  ∀ (s : State) (port : Byte), exec (.outPort port) s =
    .next { s with outEvents := { port := port, value := s.regs.a } :: s.outEvents, pc := s.pc + 2 }

/-! ## The run -/

/-- The run is a function of the launch (60_exceptions.md section 4; what "run to completion" means is the spec's decision D23):
looked at after at most `n` steps (log 19) it has ended in `t` exactly where some step among the first `n`, with no host move
before it, executes HLT and leaves `t`; the final state is one and the same whenever one looks; and a run that faults never
ends. -/
def Obligations.RunEndsExactlyAtHaltStep : Prop :=
  ∀ (mode : UnsourcedMode) (spReset : Word) (image : List Byte),
    (∀ n t, runOf mode spReset image n = .ok (.ended t) ↔
      ∃ s k u, State.launch spReset image = .ok s ∧ k < n ∧ s.history mode (List.replicate k .step) = .next u ∧
        EndsRun mode u t) ∧
    (∀ n m t u, runOf mode spReset image n = .ok (.ended t) → runOf mode spReset image m = .ok (.ended u) → t = u) ∧
    ∀ n m r t, runOf mode spReset image n = .ok (.faulted r) → runOf mode spReset image m ≠ .ok (.ended t)
end

