-- ==== Sys2Proof/Laws/Bytes.lean ====
section
/-! SUPPORT. Laws of the byte-order helpers, and that they are the arithmetic of 00_scope.md R5. -/

namespace Sys2Proof

@[simp] theorem toNat_cat (h l : Byte) : (cat h l).toNat = h.toNat * 256 + l.toNat := by
  have h2 := l.isLt
  show (h ++ l).toNat = _
  rw [BitVec.toNat_append, ← Nat.shiftLeft_add_eq_or_of_lt h2, Nat.shiftLeft_eq]

@[simp] theorem toNat_hi (v : Word) : (hi v).toNat = v.toNat / 256 := by
  have := v.isLt
  simp only [hi, BitVec.extractLsb'_toNat, Nat.shiftRight_eq_div_pow]
  omega

@[simp] theorem toNat_lo (v : Word) : (lo v).toNat = v.toNat % 256 := by
  simp [lo, BitVec.extractLsb'_toNat]

@[simp] theorem hi_cat (h l : Byte) : hi (cat h l) = h := by
  have := l.isLt
  apply BitVec.eq_of_toNat_eq
  rw [toNat_hi, toNat_cat]
  omega

@[simp] theorem lo_cat (h l : Byte) : lo (cat h l) = l := by
  have := l.isLt
  apply BitVec.eq_of_toNat_eq
  rw [toNat_lo, toNat_cat]
  omega

@[simp] theorem cat_hi_lo (v : Word) : cat (hi v) (lo v) = v := by
  apply BitVec.eq_of_toNat_eq
  rw [toNat_cat, toNat_hi, toNat_lo]
  omega

theorem hi_eq_highHalf (v : Word) : hi v = Machine.highHalf v := by
  have := v.isLt
  apply BitVec.eq_of_toNat_eq
  rw [toNat_hi, Machine.highHalf, BitVec.toNat_ofNat]
  omega

theorem lo_eq_lowHalf (v : Word) : lo v = Machine.lowHalf v := by
  apply BitVec.eq_of_toNat_eq
  rw [toNat_lo, Machine.lowHalf, BitVec.toNat_ofNat]
  omega

theorem cat_eq_pairOf (h l : Byte) : cat h l = Machine.pairOf h l := by
  have h1 := h.isLt
  have h2 := l.isLt
  apply BitVec.eq_of_toNat_eq
  rw [toNat_cat, Machine.pairOf, BitVec.toNat_ofNat]
  omega

end Sys2Proof
end

