-- ==== Sys2Proof/Laws/Memory.lean ====
section
/-! SUPPORT. Laws of the memory: reads of writes, the image, and that every operation keeps the canonical form. -/

namespace Sys2Proof.Machine

@[simp] theorem Memory.read_nil (a : Nat) : Memory.read [] a = unlistedByte := rfl

/-- A canonical list says where its cells may lie. -/
theorem Memory.wfFrom_cons (low k : Nat) (v : Byte) (m : Memory) :
    Memory.wfFrom low ((k, v) :: m) = true ↔
      low ≤ k ∧ k < 65536 ∧ v ≠ unlistedByte ∧ Memory.wfFrom (k + 1) m = true := by
  simp only [Memory.wfFrom, Bool.and_eq_true, decide_eq_true_iff, bne_iff_ne, and_assoc]

theorem Memory.wfFrom_mono {low low' : Nat} {m : Memory} (h : Memory.wfFrom low m = true) (le : low' ≤ low) :
    Memory.wfFrom low' m = true := by
  cases m with
  | nil => rfl
  | cons c m =>
    obtain ⟨k, v⟩ := c
    rw [Memory.wfFrom_cons] at h ⊢
    exact ⟨by omega, h.2⟩

/-- Below the first admitted address a canonical memory lists nothing. -/
theorem Memory.read_below {low a : Nat} {m : Memory} (h : Memory.wfFrom low m = true) (lt : a < low) :
    Memory.read m a = unlistedByte := by
  induction m generalizing low with
  | nil => rfl
  | cons c m ih =>
    obtain ⟨k, v⟩ := c
    rw [Memory.wfFrom_cons] at h
    have : k ≠ a := by omega
    simp only [Memory.read, this, if_false]
    exact ih h.2.2.2 (by omega)

/-- A write leaves every other address alone, in any memory. -/
theorem Memory.read_write_other (m : Memory) (a b : Nat) (v : Byte) (ne : b ≠ a) :
    Memory.read (Memory.write m a v) b = Memory.read m b := by
  induction m with
  | nil => by_cases h : v = unlistedByte <;> simp [Memory.write, Memory.read, h, Ne.symm ne]
  | cons c m ih =>
    obtain ⟨k, w⟩ := c
    have ne' : a ≠ b := Ne.symm ne
    simp only [Memory.write]
    split
    · split <;> simp [Memory.read, ne']
    · split
      · rename_i h
        subst h
        split <;> simp [Memory.read, ne']
      · simp only [Memory.read, ih]

/-- A write is what a read of its address then gives, in a canonical memory. -/
theorem Memory.read_write_same {low : Nat} (m : Memory) (a : Nat) (v : Byte) (h : Memory.wfFrom low m = true) :
    Memory.read (Memory.write m a v) a = v := by
  induction m generalizing low with
  | nil => by_cases h : v = unlistedByte <;> simp [Memory.write, Memory.read, h]
  | cons c m ih =>
    obtain ⟨k, w⟩ := c
    have h' := (Memory.wfFrom_cons _ _ _ _).1 h
    simp only [Memory.write]
    split
    · rename_i lt
      split
      · rename_i e
        rw [e]
        exact Memory.read_below ((Memory.wfFrom_cons (a + 1) k w m).2 ⟨lt, h'.2⟩) (by omega)
      · simp [Memory.read]
    · split
      · rename_i e
        subst e
        split
        · rename_i e
          rw [e]
          exact Memory.read_below h'.2.2.2 (by omega)
        · simp [Memory.read]
      · rename_i e
        have : k ≠ a := fun e' => e e'.symm
        simp only [Memory.read, this, if_false]
        exact ih h'.2.2.2

/-- Reads of writes in one line. -/
theorem Memory.read_write {low : Nat} (m : Memory) (a b : Nat) (v : Byte) (h : Memory.wfFrom low m = true) :
    Memory.read (Memory.write m a v) b = if b = a then v else Memory.read m b := by
  split
  · rename_i e
    rw [e]
    exact Memory.read_write_same m a v h
  · rename_i e
    exact Memory.read_write_other m a b v e

theorem Memory.wfFrom_write {low : Nat} (m : Memory) (a : Nat) (v : Byte) (h : Memory.wfFrom low m = true)
    (le : low ≤ a) (lt : a < 65536) : Memory.wfFrom low (Memory.write m a v) = true := by
  induction m generalizing low with
  | nil =>
    simp only [Memory.write]
    split
    · rfl
    · rename_i ne
      exact (Memory.wfFrom_cons _ _ _ _).2 ⟨le, lt, ne, rfl⟩
  | cons c m ih =>
    obtain ⟨k, w⟩ := c
    have h' := (Memory.wfFrom_cons _ _ _ _).1 h
    simp only [Memory.write]
    split
    · rename_i lt'
      split
      · exact h
      · rename_i ne
        exact (Memory.wfFrom_cons _ _ _ _).2 ⟨le, lt, ne, (Memory.wfFrom_cons _ _ _ _).2 ⟨lt', h'.2⟩⟩
    · split
      · rename_i e
        subst e
        split
        · exact Memory.wfFrom_mono h'.2.2.2 (by omega)
        · rename_i ne
          exact (Memory.wfFrom_cons _ _ _ _).2 ⟨le, lt, ne, h'.2.2.2⟩
      · exact (Memory.wfFrom_cons _ _ _ _).2 ⟨h'.1, h'.2.1, h'.2.2.1, ih h'.2.2.2 (by omega)⟩

/-- A write keeps the canonical form. -/
theorem Memory.wf_write (m : Memory) (a : Word) (v : Byte) (h : Memory.wf m = true) :
    Memory.wf (Memory.write m a.toNat v) = true :=
  Memory.wfFrom_write m a.toNat v h (Nat.zero_le _) a.isLt

/-- Loading an image gives a canonical memory. -/
theorem Memory.wfFrom_load (image : List Byte) (at_ : Nat) (le : at_ + image.length ≤ 65536) :
    Memory.wfFrom at_ (Memory.load at_ image) = true := by
  induction image generalizing at_ with
  | nil => rfl
  | cons v image ih =>
    simp only [List.length_cons] at le
    simp only [Memory.load]
    split
    · exact Memory.wfFrom_mono (ih (at_ + 1) (by omega)) (by omega)
    · rename_i ne
      exact (Memory.wfFrom_cons _ _ _ _).2 ⟨le_refl _, by omega, ne, ih (at_ + 1) (by omega)⟩

theorem State.reset_mem_wf : Memory.wf State.reset.mem = true := rfl

/-! ## Through the state -/

theorem State.readByte_of_mem_eq {s t : State} (h : t.mem = s.mem) (a : Word) : t.readByte a = s.readByte a := by
  simp [State.readByte, h]

theorem State.readByte_writeByte_other (s : State) (a b : Word) (v : Byte) (ne : b ≠ a) :
    (s.writeByte a v).readByte b = s.readByte b :=
  Memory.read_write_other _ _ _ _ fun e => ne (BitVec.eq_of_toNat_eq e)

theorem State.readByte_writeByte_same (s : State) (a : Word) (v : Byte) (h : Memory.wf s.mem = true) :
    (s.writeByte a v).readByte a = v :=
  Memory.read_write_same _ _ _ h

theorem State.writeByte_wf (s : State) (a : Word) (v : Byte) (h : Memory.wf s.mem = true) :
    Memory.wf (s.writeByte a v).mem = true :=
  Memory.wf_write _ _ _ h

theorem State.writeWord_wf (s : State) (a v : Word) (h : Memory.wf s.mem = true) :
    Memory.wf (s.writeWord a v).mem = true :=
  State.writeByte_wf _ _ _ (State.writeByte_wf _ _ _ h)

theorem State.push16_wf (s : State) (v : Word) (h : Memory.wf s.mem = true) : Memory.wf (s.push16 v).mem = true :=
  State.writeByte_wf _ _ _ (State.writeByte_wf _ _ _ h)

end Sys2Proof.Machine
end

