-- ==== Sys2Proof/Laws/State.lean ====
section
/-! SUPPORT. One lemma per field per update of the state, true by unfolding, for simp: no later proof unfolds a record update. -/

namespace Sys2Proof.Machine

variable (s : State)

/-! ### writeByte -/

@[simp] theorem State.writeByte_regs (a : Word) (v : Byte) : (s.writeByte a v).regs = s.regs := rfl
@[simp] theorem State.writeByte_pc (a : Word) (v : Byte) : (s.writeByte a v).pc = s.pc := rfl
@[simp] theorem State.writeByte_sp (a : Word) (v : Byte) : (s.writeByte a v).sp = s.sp := rfl
@[simp] theorem State.writeByte_flags (a : Word) (v : Byte) : (s.writeByte a v).flags = s.flags := rfl
@[simp] theorem State.writeByte_run (a : Word) (v : Byte) : (s.writeByte a v).run = s.run := rfl
@[simp] theorem State.writeByte_fault (a : Word) (v : Byte) : (s.writeByte a v).fault = s.fault := rfl
@[simp] theorem State.writeByte_mem (a : Word) (v : Byte) : (s.writeByte a v).mem = s.mem.write a.toNat v := rfl
@[simp] theorem State.writeByte_ioCount (a : Word) (v : Byte) : (s.writeByte a v).ioCount = s.ioCount := rfl
@[simp] theorem State.writeByte_outEvents (a : Word) (v : Byte) : (s.writeByte a v).outEvents = s.outEvents := rfl

/-! ### writeWord -/

@[simp] theorem State.writeWord_regs (a v : Word) : (s.writeWord a v).regs = s.regs := rfl
@[simp] theorem State.writeWord_pc (a v : Word) : (s.writeWord a v).pc = s.pc := rfl
@[simp] theorem State.writeWord_sp (a v : Word) : (s.writeWord a v).sp = s.sp := rfl
@[simp] theorem State.writeWord_flags (a v : Word) : (s.writeWord a v).flags = s.flags := rfl
@[simp] theorem State.writeWord_run (a v : Word) : (s.writeWord a v).run = s.run := rfl
@[simp] theorem State.writeWord_fault (a v : Word) : (s.writeWord a v).fault = s.fault := rfl
@[simp] theorem State.writeWord_mem (a v : Word) : (s.writeWord a v).mem = (s.mem.write a.toNat (lo v)).write (a + 1).toNat (hi v) := rfl
@[simp] theorem State.writeWord_ioCount (a v : Word) : (s.writeWord a v).ioCount = s.ioCount := rfl
@[simp] theorem State.writeWord_outEvents (a v : Word) : (s.writeWord a v).outEvents = s.outEvents := rfl

/-! ### setReg -/

@[simp] theorem State.setReg_regs (n : Reg) (v : Byte) : (s.setReg n v).regs = s.regs.set n v := rfl
@[simp] theorem State.setReg_pc (n : Reg) (v : Byte) : (s.setReg n v).pc = s.pc := rfl
@[simp] theorem State.setReg_sp (n : Reg) (v : Byte) : (s.setReg n v).sp = s.sp := rfl
@[simp] theorem State.setReg_flags (n : Reg) (v : Byte) : (s.setReg n v).flags = s.flags := rfl
@[simp] theorem State.setReg_run (n : Reg) (v : Byte) : (s.setReg n v).run = s.run := rfl
@[simp] theorem State.setReg_fault (n : Reg) (v : Byte) : (s.setReg n v).fault = s.fault := rfl
@[simp] theorem State.setReg_mem (n : Reg) (v : Byte) : (s.setReg n v).mem = s.mem := rfl
@[simp] theorem State.setReg_ioCount (n : Reg) (v : Byte) : (s.setReg n v).ioCount = s.ioCount := rfl
@[simp] theorem State.setReg_outEvents (n : Reg) (v : Byte) : (s.setReg n v).outEvents = s.outEvents := rfl

/-! ### advance -/

@[simp] theorem State.advance_regs (len : Word) : (s.advance len).regs = s.regs := rfl
@[simp] theorem State.advance_pc (len : Word) : (s.advance len).pc = s.pc + len := rfl
@[simp] theorem State.advance_sp (len : Word) : (s.advance len).sp = s.sp := rfl
@[simp] theorem State.advance_flags (len : Word) : (s.advance len).flags = s.flags := rfl
@[simp] theorem State.advance_run (len : Word) : (s.advance len).run = s.run := rfl
@[simp] theorem State.advance_fault (len : Word) : (s.advance len).fault = s.fault := rfl
@[simp] theorem State.advance_mem (len : Word) : (s.advance len).mem = s.mem := rfl
@[simp] theorem State.advance_ioCount (len : Word) : (s.advance len).ioCount = s.ioCount := rfl
@[simp] theorem State.advance_outEvents (len : Word) : (s.advance len).outEvents = s.outEvents := rfl

/-! ### push16 -/

@[simp] theorem State.push16_regs (v : Word) : (s.push16 v).regs = s.regs := rfl
@[simp] theorem State.push16_pc (v : Word) : (s.push16 v).pc = s.pc := rfl
@[simp] theorem State.push16_sp (v : Word) : (s.push16 v).sp = s.sp - 2 := rfl
@[simp] theorem State.push16_flags (v : Word) : (s.push16 v).flags = s.flags := rfl
@[simp] theorem State.push16_run (v : Word) : (s.push16 v).run = s.run := rfl
@[simp] theorem State.push16_fault (v : Word) : (s.push16 v).fault = s.fault := rfl
@[simp] theorem State.push16_mem (v : Word) : (s.push16 v).mem = (s.mem.write (s.sp - 1).toNat (hi v)).write (s.sp - 2).toNat (lo v) := rfl
@[simp] theorem State.push16_ioCount (v : Word) : (s.push16 v).ioCount = s.ioCount := rfl
@[simp] theorem State.push16_outEvents (v : Word) : (s.push16 v).outEvents = s.outEvents := rfl

/-! ### pop16 -/

@[simp] theorem State.pop16_regs : (s.pop16).regs = s.regs := rfl
@[simp] theorem State.pop16_pc : (s.pop16).pc = s.pc := rfl
@[simp] theorem State.pop16_sp : (s.pop16).sp = s.sp + 2 := rfl
@[simp] theorem State.pop16_flags : (s.pop16).flags = s.flags := rfl
@[simp] theorem State.pop16_run : (s.pop16).run = s.run := rfl
@[simp] theorem State.pop16_fault : (s.pop16).fault = s.fault := rfl
@[simp] theorem State.pop16_mem : (s.pop16).mem = s.mem := rfl
@[simp] theorem State.pop16_ioCount : (s.pop16).ioCount = s.ioCount := rfl
@[simp] theorem State.pop16_outEvents : (s.pop16).outEvents = s.outEvents := rfl

/-! ### raiseUnimplemented -/

@[simp] theorem State.raiseUnimplemented_regs (op : Byte) (a : Word) : (s.raiseUnimplemented op a).regs = s.regs := rfl
@[simp] theorem State.raiseUnimplemented_pc (op : Byte) (a : Word) : (s.raiseUnimplemented op a).pc = s.pc := rfl
@[simp] theorem State.raiseUnimplemented_sp (op : Byte) (a : Word) : (s.raiseUnimplemented op a).sp = s.sp := rfl
@[simp] theorem State.raiseUnimplemented_flags (op : Byte) (a : Word) : (s.raiseUnimplemented op a).flags = s.flags := rfl
@[simp] theorem State.raiseUnimplemented_run (op : Byte) (a : Word) : (s.raiseUnimplemented op a).run = s.run := rfl
@[simp] theorem State.raiseUnimplemented_fault (op : Byte) (a : Word) : (s.raiseUnimplemented op a).fault = some { opcode := op, address := a } := rfl
@[simp] theorem State.raiseUnimplemented_mem (op : Byte) (a : Word) : (s.raiseUnimplemented op a).mem = s.mem := rfl
@[simp] theorem State.raiseUnimplemented_ioCount (op : Byte) (a : Word) : (s.raiseUnimplemented op a).ioCount = s.ioCount := rfl
@[simp] theorem State.raiseUnimplemented_outEvents (op : Byte) (a : Word) : (s.raiseUnimplemented op a).outEvents = s.outEvents := rfl

/-! ### jumpTo -/

@[simp] theorem State.jumpTo_regs (a : Word) : (s.jumpTo a).regs = s.regs := rfl
@[simp] theorem State.jumpTo_pc (a : Word) : (s.jumpTo a).pc = a := rfl
@[simp] theorem State.jumpTo_sp (a : Word) : (s.jumpTo a).sp = s.sp := rfl
@[simp] theorem State.jumpTo_flags (a : Word) : (s.jumpTo a).flags = s.flags := rfl
@[simp] theorem State.jumpTo_run (a : Word) : (s.jumpTo a).run = s.run := rfl
@[simp] theorem State.jumpTo_fault (a : Word) : (s.jumpTo a).fault = s.fault := rfl
@[simp] theorem State.jumpTo_mem (a : Word) : (s.jumpTo a).mem = s.mem := rfl
@[simp] theorem State.jumpTo_ioCount (a : Word) : (s.jumpTo a).ioCount = s.ioCount := rfl
@[simp] theorem State.jumpTo_outEvents (a : Word) : (s.jumpTo a).outEvents = s.outEvents := rfl

/-! ### callTo -/

@[simp] theorem State.callTo_regs (next a : Word) : (s.callTo next a).regs = s.regs := rfl
@[simp] theorem State.callTo_pc (next a : Word) : (s.callTo next a).pc = a := rfl
@[simp] theorem State.callTo_sp (next a : Word) : (s.callTo next a).sp = s.sp - 2 := rfl
@[simp] theorem State.callTo_flags (next a : Word) : (s.callTo next a).flags = s.flags := rfl
@[simp] theorem State.callTo_run (next a : Word) : (s.callTo next a).run = s.run := rfl
@[simp] theorem State.callTo_fault (next a : Word) : (s.callTo next a).fault = s.fault := rfl
@[simp] theorem State.callTo_mem (next a : Word) : (s.callTo next a).mem = (s.push16 next).mem := rfl
@[simp] theorem State.callTo_ioCount (next a : Word) : (s.callTo next a).ioCount = s.ioCount := rfl
@[simp] theorem State.callTo_outEvents (next a : Word) : (s.callTo next a).outEvents = s.outEvents := rfl

/-! ### returnTo -/

@[simp] theorem State.returnTo_regs : (s.returnTo).regs = s.regs := rfl
@[simp] theorem State.returnTo_pc : (s.returnTo).pc = s.stackTop := rfl
@[simp] theorem State.returnTo_sp : (s.returnTo).sp = s.sp + 2 := rfl
@[simp] theorem State.returnTo_flags : (s.returnTo).flags = s.flags := rfl
@[simp] theorem State.returnTo_run : (s.returnTo).run = s.run := rfl
@[simp] theorem State.returnTo_fault : (s.returnTo).fault = s.fault := rfl
@[simp] theorem State.returnTo_mem : (s.returnTo).mem = s.mem := rfl
@[simp] theorem State.returnTo_ioCount : (s.returnTo).ioCount = s.ioCount := rfl
@[simp] theorem State.returnTo_outEvents : (s.returnTo).outEvents = s.outEvents := rfl

/-! ### writeOperand -/

@[simp] theorem State.writeOperand_pc (o : Operand) (v : Byte) : (s.writeOperand o v).pc = s.pc := by cases o <;> rfl
@[simp] theorem State.writeOperand_sp (o : Operand) (v : Byte) : (s.writeOperand o v).sp = s.sp := by cases o <;> rfl
@[simp] theorem State.writeOperand_flags (o : Operand) (v : Byte) : (s.writeOperand o v).flags = s.flags := by cases o <;> rfl
@[simp] theorem State.writeOperand_run (o : Operand) (v : Byte) : (s.writeOperand o v).run = s.run := by cases o <;> rfl
@[simp] theorem State.writeOperand_fault (o : Operand) (v : Byte) : (s.writeOperand o v).fault = s.fault := by cases o <;> rfl
@[simp] theorem State.writeOperand_ioCount (o : Operand) (v : Byte) : (s.writeOperand o v).ioCount = s.ioCount := by cases o <;> rfl
@[simp] theorem State.writeOperand_outEvents (o : Operand) (v : Byte) : (s.writeOperand o v).outEvents = s.outEvents := by cases o <;> rfl

/-! ### writePair -/

@[simp] theorem State.writePair_pc (p : Pair) (v : Word) : (s.writePair p v).pc = s.pc := by cases p <;> rfl
@[simp] theorem State.writePair_flags (p : Pair) (v : Word) : (s.writePair p v).flags = s.flags := by cases p <;> rfl
@[simp] theorem State.writePair_run (p : Pair) (v : Word) : (s.writePair p v).run = s.run := by cases p <;> rfl
@[simp] theorem State.writePair_fault (p : Pair) (v : Word) : (s.writePair p v).fault = s.fault := by cases p <;> rfl
@[simp] theorem State.writePair_mem (p : Pair) (v : Word) : (s.writePair p v).mem = s.mem := by cases p <;> rfl
@[simp] theorem State.writePair_ioCount (p : Pair) (v : Word) : (s.writePair p v).ioCount = s.ioCount := by cases p <;> rfl
@[simp] theorem State.writePair_outEvents (p : Pair) (v : Word) : (s.writePair p v).outEvents = s.outEvents := by cases p <;> rfl

/-! ### rotate -/

@[simp] theorem State.rotate_regs (a : Byte) (cy : Bool) : (s.rotate a cy).regs = s.regs.set .a a := rfl
@[simp] theorem State.rotate_pc (a : Byte) (cy : Bool) : (s.rotate a cy).pc = s.pc + 1 := rfl
@[simp] theorem State.rotate_sp (a : Byte) (cy : Bool) : (s.rotate a cy).sp = s.sp := rfl
@[simp] theorem State.rotate_flags (a : Byte) (cy : Bool) : (s.rotate a cy).flags = s.flags.setCy cy := rfl
@[simp] theorem State.rotate_run (a : Byte) (cy : Bool) : (s.rotate a cy).run = s.run := rfl
@[simp] theorem State.rotate_fault (a : Byte) (cy : Bool) : (s.rotate a cy).fault = s.fault := rfl
@[simp] theorem State.rotate_mem (a : Byte) (cy : Bool) : (s.rotate a cy).mem = s.mem := rfl
@[simp] theorem State.rotate_ioCount (a : Byte) (cy : Bool) : (s.rotate a cy).ioCount = s.ioCount := rfl
@[simp] theorem State.rotate_outEvents (a : Byte) (cy : Bool) : (s.rotate a cy).outEvents = s.outEvents := rfl

/-! ### withCarry -/

@[simp] theorem State.withCarry_regs (cy : Bool) : (s.withCarry cy).regs = s.regs := rfl
@[simp] theorem State.withCarry_pc (cy : Bool) : (s.withCarry cy).pc = s.pc + 1 := rfl
@[simp] theorem State.withCarry_sp (cy : Bool) : (s.withCarry cy).sp = s.sp := rfl
@[simp] theorem State.withCarry_flags (cy : Bool) : (s.withCarry cy).flags = s.flags.setCy cy := rfl
@[simp] theorem State.withCarry_run (cy : Bool) : (s.withCarry cy).run = s.run := rfl
@[simp] theorem State.withCarry_fault (cy : Bool) : (s.withCarry cy).fault = s.fault := rfl
@[simp] theorem State.withCarry_mem (cy : Bool) : (s.withCarry cy).mem = s.mem := rfl
@[simp] theorem State.withCarry_ioCount (cy : Bool) : (s.withCarry cy).ioCount = s.ioCount := rfl
@[simp] theorem State.withCarry_outEvents (cy : Bool) : (s.withCarry cy).outEvents = s.outEvents := rfl

/-! ### halt -/

@[simp] theorem State.halt_regs : (s.halt).regs = s.regs := rfl
@[simp] theorem State.halt_pc : (s.halt).pc = s.pc + 1 := rfl
@[simp] theorem State.halt_sp : (s.halt).sp = s.sp := rfl
@[simp] theorem State.halt_flags : (s.halt).flags = s.flags := rfl
@[simp] theorem State.halt_run : (s.halt).run = false := rfl
@[simp] theorem State.halt_fault : (s.halt).fault = s.fault := rfl
@[simp] theorem State.halt_mem : (s.halt).mem = s.mem := rfl
@[simp] theorem State.halt_ioCount : (s.halt).ioCount = s.ioCount := rfl
@[simp] theorem State.halt_outEvents : (s.halt).outEvents = s.outEvents := rfl

/-! ### input -/

@[simp] theorem State.input_regs (port : Byte) : (s.input port).regs = s.regs.set .a (Config.ioIn s.ioCount port) := rfl
@[simp] theorem State.input_pc (port : Byte) : (s.input port).pc = s.pc + 2 := rfl
@[simp] theorem State.input_sp (port : Byte) : (s.input port).sp = s.sp := rfl
@[simp] theorem State.input_flags (port : Byte) : (s.input port).flags = s.flags := rfl
@[simp] theorem State.input_run (port : Byte) : (s.input port).run = s.run := rfl
@[simp] theorem State.input_fault (port : Byte) : (s.input port).fault = s.fault := rfl
@[simp] theorem State.input_mem (port : Byte) : (s.input port).mem = s.mem := rfl
@[simp] theorem State.input_ioCount (port : Byte) : (s.input port).ioCount = s.ioCount + 1 := rfl
@[simp] theorem State.input_outEvents (port : Byte) : (s.input port).outEvents = s.outEvents := rfl

/-! ### output -/

@[simp] theorem State.output_regs (port : Byte) : (s.output port).regs = s.regs := rfl
@[simp] theorem State.output_pc (port : Byte) : (s.output port).pc = s.pc + 2 := rfl
@[simp] theorem State.output_sp (port : Byte) : (s.output port).sp = s.sp := rfl
@[simp] theorem State.output_flags (port : Byte) : (s.output port).flags = s.flags := rfl
@[simp] theorem State.output_run (port : Byte) : (s.output port).run = s.run := rfl
@[simp] theorem State.output_fault (port : Byte) : (s.output port).fault = s.fault := rfl
@[simp] theorem State.output_mem (port : Byte) : (s.output port).mem = s.mem := rfl
@[simp] theorem State.output_ioCount (port : Byte) : (s.output port).ioCount = s.ioCount := rfl
@[simp] theorem State.output_outEvents (port : Byte) : (s.output port).outEvents = { port := port, value := s.regs.a } :: s.outEvents := rfl

/-! ### alu -/

@[simp] theorem State.alu_regs (op : AluOp) (src : AluSrc) : (s.alu op src).regs = s.regs.set .a (aluAcc op s.regs.a (aluOut op s.regs.a (s.readSrc src) s.flags.cy).res) := rfl
@[simp] theorem State.alu_pc (op : AluOp) (src : AluSrc) : (s.alu op src).pc = s.pc + srcLength src := rfl
@[simp] theorem State.alu_sp (op : AluOp) (src : AluSrc) : (s.alu op src).sp = s.sp := rfl
@[simp] theorem State.alu_flags (op : AluOp) (src : AluSrc) : (s.alu op src).flags = s.flags.ofAlu (aluOut op s.regs.a (s.readSrc src) s.flags.cy) := rfl
@[simp] theorem State.alu_run (op : AluOp) (src : AluSrc) : (s.alu op src).run = s.run := rfl
@[simp] theorem State.alu_fault (op : AluOp) (src : AluSrc) : (s.alu op src).fault = s.fault := rfl
@[simp] theorem State.alu_mem (op : AluOp) (src : AluSrc) : (s.alu op src).mem = s.mem := rfl
@[simp] theorem State.alu_ioCount (op : AluOp) (src : AluSrc) : (s.alu op src).ioCount = s.ioCount := rfl
@[simp] theorem State.alu_outEvents (op : AluOp) (src : AluSrc) : (s.alu op src).outEvents = s.outEvents := rfl

/-! ### inr -/

@[simp] theorem State.inr_regs (o : Operand) : (s.inr o).regs = (s.writeOperand o (add8 (s.readOperand o) 1 false).res).regs := by cases o <;> rfl
@[simp] theorem State.inr_pc (o : Operand) : (s.inr o).pc = s.pc + 1 := by cases o <;> rfl
@[simp] theorem State.inr_sp (o : Operand) : (s.inr o).sp = s.sp := by cases o <;> rfl
@[simp] theorem State.inr_flags (o : Operand) : (s.inr o).flags = s.flags.ofCount (add8 (s.readOperand o) 1 false) := by cases o <;> rfl
@[simp] theorem State.inr_run (o : Operand) : (s.inr o).run = s.run := by cases o <;> rfl
@[simp] theorem State.inr_fault (o : Operand) : (s.inr o).fault = s.fault := by cases o <;> rfl
@[simp] theorem State.inr_mem (o : Operand) : (s.inr o).mem = (s.writeOperand o (add8 (s.readOperand o) 1 false).res).mem := by cases o <;> rfl
@[simp] theorem State.inr_ioCount (o : Operand) : (s.inr o).ioCount = s.ioCount := by cases o <;> rfl
@[simp] theorem State.inr_outEvents (o : Operand) : (s.inr o).outEvents = s.outEvents := by cases o <;> rfl

/-! ### dcr -/

@[simp] theorem State.dcr_regs (o : Operand) : (s.dcr o).regs = (s.writeOperand o (sub8 (s.readOperand o) 1 false).res).regs := by cases o <;> rfl
@[simp] theorem State.dcr_pc (o : Operand) : (s.dcr o).pc = s.pc + 1 := by cases o <;> rfl
@[simp] theorem State.dcr_sp (o : Operand) : (s.dcr o).sp = s.sp := by cases o <;> rfl
@[simp] theorem State.dcr_flags (o : Operand) : (s.dcr o).flags = s.flags.ofCount (sub8 (s.readOperand o) 1 false) := by cases o <;> rfl
@[simp] theorem State.dcr_run (o : Operand) : (s.dcr o).run = s.run := by cases o <;> rfl
@[simp] theorem State.dcr_fault (o : Operand) : (s.dcr o).fault = s.fault := by cases o <;> rfl
@[simp] theorem State.dcr_mem (o : Operand) : (s.dcr o).mem = (s.writeOperand o (sub8 (s.readOperand o) 1 false).res).mem := by cases o <;> rfl
@[simp] theorem State.dcr_ioCount (o : Operand) : (s.dcr o).ioCount = s.ioCount := by cases o <;> rfl
@[simp] theorem State.dcr_outEvents (o : Operand) : (s.dcr o).outEvents = s.outEvents := by cases o <;> rfl

/-! ### dad -/

@[simp] theorem State.dad_regs (p : Pair) : (s.dad p).regs = s.regs.setHl (BitVec.ofNat 16 (s.regs.hl.toNat + (s.readPair p).toNat)) := rfl
@[simp] theorem State.dad_pc (p : Pair) : (s.dad p).pc = s.pc + 1 := rfl
@[simp] theorem State.dad_sp (p : Pair) : (s.dad p).sp = s.sp := rfl
@[simp] theorem State.dad_flags (p : Pair) : (s.dad p).flags = s.flags.setCy ((s.regs.hl.toNat + (s.readPair p).toNat).testBit 16) := rfl
@[simp] theorem State.dad_run (p : Pair) : (s.dad p).run = s.run := rfl
@[simp] theorem State.dad_fault (p : Pair) : (s.dad p).fault = s.fault := rfl
@[simp] theorem State.dad_mem (p : Pair) : (s.dad p).mem = s.mem := rfl
@[simp] theorem State.dad_ioCount (p : Pair) : (s.dad p).ioCount = s.ioCount := rfl
@[simp] theorem State.dad_outEvents (p : Pair) : (s.dad p).outEvents = s.outEvents := rfl

/-! ### xchg -/

@[simp] theorem State.xchg_regs : (s.xchg).regs = (s.regs.setHl s.regs.de).setDe s.regs.hl := rfl
@[simp] theorem State.xchg_pc : (s.xchg).pc = s.pc + 1 := rfl
@[simp] theorem State.xchg_sp : (s.xchg).sp = s.sp := rfl
@[simp] theorem State.xchg_flags : (s.xchg).flags = s.flags := rfl
@[simp] theorem State.xchg_run : (s.xchg).run = s.run := rfl
@[simp] theorem State.xchg_fault : (s.xchg).fault = s.fault := rfl
@[simp] theorem State.xchg_mem : (s.xchg).mem = s.mem := rfl
@[simp] theorem State.xchg_ioCount : (s.xchg).ioCount = s.ioCount := rfl
@[simp] theorem State.xchg_outEvents : (s.xchg).outEvents = s.outEvents := rfl

/-! ### popStatus -/

@[simp] theorem State.popStatus_regs : (s.popStatus).regs = s.regs.set .a (hi s.stackTop) := rfl
@[simp] theorem State.popStatus_pc : (s.popStatus).pc = s.pc + 1 := rfl
@[simp] theorem State.popStatus_sp : (s.popStatus).sp = s.sp + 2 := rfl
@[simp] theorem State.popStatus_flags : (s.popStatus).flags = Flags.ofByte (lo s.stackTop) := rfl
@[simp] theorem State.popStatus_run : (s.popStatus).run = s.run := rfl
@[simp] theorem State.popStatus_fault : (s.popStatus).fault = s.fault := rfl
@[simp] theorem State.popStatus_mem : (s.popStatus).mem = s.mem := rfl
@[simp] theorem State.popStatus_ioCount : (s.popStatus).ioCount = s.ioCount := rfl
@[simp] theorem State.popStatus_outEvents : (s.popStatus).outEvents = s.outEvents := rfl

/-! ### Operands and pairs by form -/

@[simp] theorem State.writeOperand_reg_regs (r : Reg) (v : Byte) : (s.writeOperand (.reg r) v).regs = s.regs.set r v := rfl
@[simp] theorem State.writeOperand_reg_mem (r : Reg) (v : Byte) : (s.writeOperand (.reg r) v).mem = s.mem := rfl
@[simp] theorem State.writeOperand_m_regs (v : Byte) : (s.writeOperand .m v).regs = s.regs := rfl
@[simp] theorem State.writeOperand_m_mem (v : Byte) :
    (s.writeOperand .m v).mem = s.mem.write s.regs.hl.toNat v := rfl
@[simp] theorem State.readOperand_reg (r : Reg) : s.readOperand (.reg r) = s.regs.get r := rfl
@[simp] theorem State.readOperand_m : s.readOperand .m = s.readByte s.regs.hl := rfl
@[simp] theorem State.readSrc_reg (r : Reg) : s.readSrc (.reg r) = s.regs.get r := rfl
@[simp] theorem State.readSrc_m : s.readSrc .m = s.readByte s.regs.hl := rfl
@[simp] theorem State.readSrc_imm (d8 : Byte) : s.readSrc (.imm d8) = d8 := rfl
@[simp] theorem State.readPair_bc : s.readPair .bc = s.regs.bc := rfl
@[simp] theorem State.readPair_de : s.readPair .de = s.regs.de := rfl
@[simp] theorem State.readPair_hl : s.readPair .hl = s.regs.hl := rfl
@[simp] theorem State.readPair_sp : s.readPair .sp = s.sp := rfl
@[simp] theorem State.writePair_bc_regs (v : Word) : (s.writePair .bc v).regs = s.regs.setBc v := rfl
@[simp] theorem State.writePair_de_regs (v : Word) : (s.writePair .de v).regs = s.regs.setDe v := rfl
@[simp] theorem State.writePair_hl_regs (v : Word) : (s.writePair .hl v).regs = s.regs.setHl v := rfl
@[simp] theorem State.writePair_sp_regs (v : Word) : (s.writePair .sp v).regs = s.regs := rfl
@[simp] theorem State.writePair_bc_sp (v : Word) : (s.writePair .bc v).sp = s.sp := rfl
@[simp] theorem State.writePair_de_sp (v : Word) : (s.writePair .de v).sp = s.sp := rfl
@[simp] theorem State.writePair_hl_sp (v : Word) : (s.writePair .hl v).sp = s.sp := rfl
@[simp] theorem State.writePair_sp_sp (v : Word) : (s.writePair .sp v).sp = v := rfl

/-! ### The register file -/

@[simp] theorem Regs.get_a (r : Regs) : r.get .a = r.a := rfl
@[simp] theorem Regs.set_a (r : Regs) (v : Byte) : r.set .a v = { r with a := v } := rfl
@[simp] theorem Regs.get_set_same (r : Regs) (n : Reg) (v : Byte) : (r.set n v).get n = v := by cases n <;> rfl
theorem Regs.get_set_other (r : Regs) (n m : Reg) (v : Byte) (h : m ≠ n) : (r.set n v).get m = r.get m := by
  cases n <;> cases m <;> first | rfl | exact absurd rfl h
@[simp] theorem Regs.set_get_same (r : Regs) (n : Reg) : r.set n (r.get n) = r := by cases n <;> rfl

/-! ### The flags -/

@[simp] theorem Flags.setCy_cy (f : Flags) (c : Bool) : (f.setCy c).cy = c := rfl
@[simp] theorem Flags.setCy_z (f : Flags) (c : Bool) : (f.setCy c).z = f.z := rfl
@[simp] theorem Flags.setCy_s (f : Flags) (c : Bool) : (f.setCy c).s = f.s := rfl
@[simp] theorem Flags.setCy_p (f : Flags) (c : Bool) : (f.setCy c).p = f.p := rfl
@[simp] theorem Flags.setCy_ac (f : Flags) (c : Bool) : (f.setCy c).ac = f.ac := rfl
@[simp] theorem Flags.ofAlu_z (f : Flags) (r : AluOut) : (f.ofAlu r).z = (r.res == 0) := rfl
@[simp] theorem Flags.ofAlu_s (f : Flags) (r : AluOut) : (f.ofAlu r).s = r.res.getLsbD 7 := rfl
@[simp] theorem Flags.ofAlu_p (f : Flags) (r : AluOut) : (f.ofAlu r).p = parity8 r.res := rfl
@[simp] theorem Flags.ofAlu_cy (f : Flags) (r : AluOut) : (f.ofAlu r).cy = r.cy := rfl
@[simp] theorem Flags.ofAlu_ac (f : Flags) (r : AluOut) : (f.ofAlu r).ac = r.ac := rfl
@[simp] theorem Flags.ofCount_z (f : Flags) (r : AluOut) : (f.ofCount r).z = (r.res == 0) := rfl
@[simp] theorem Flags.ofCount_s (f : Flags) (r : AluOut) : (f.ofCount r).s = r.res.getLsbD 7 := rfl
@[simp] theorem Flags.ofCount_p (f : Flags) (r : AluOut) : (f.ofCount r).p = parity8 r.res := rfl
@[simp] theorem Flags.ofCount_cy (f : Flags) (r : AluOut) : (f.ofCount r).cy = f.cy := rfl
@[simp] theorem Flags.ofCount_ac (f : Flags) (r : AluOut) : (f.ofCount r).ac = r.ac := rfl

/-! ### The driver -/

theorem State.drive_faulted (r : FaultRecord) (h : s.fault = some r) (move : DriverMove) : s.drive move = s := by
  simp [State.drive, h]
theorem State.drive_resume (h : s.fault = none) : s.drive .resume = { s with run := true } := by
  simp [State.drive, h]
theorem State.drive_pause (h : s.fault = none) : s.drive .pause = { s with run := false } := by
  simp [State.drive, h]

/-! ### The view -/

theorem State.view_unfaulted (h : s.fault = none) : s.view = .unfaulted s := by
  simp [State.view, h]
theorem State.view_faulted (r : FaultRecord) (h : s.fault = some r) : s.view = .faulted r := by
  simp [State.view, h]

end Sys2Proof.Machine
end

