-- ==== Sys2Proof/Laws/Exec.lean ====
section
/-! SUPPORT. What `exec` can do, said once: the effect of a rule family as a function of the state, that `exec` answers the
next state it gives, and that instructions and families correspond. Later proofs split on the family, not on `exec`. -/

namespace Sys2Proof.Machine

theorem instr_form (i : Instr) : i.form.instr = i := by cases i <;> rfl

theorem form_instr (f : Form) : f.instr.form = f := by
  cases f with
  | alu op src => cases src with
    | imm d8 => cases op <;> rfl
    | m => cases op <;> rfl
    | reg r => cases op <;> cases r <;> rfl
  | inr o => cases o with | m => rfl | reg r => cases r <;> rfl
  | dcr o => cases o with | m => rfl | reg r => cases r <;> rfl
  | inx p => cases p <;> rfl
  | dcx p => cases p <;> rfl
  | dad p => cases p <;> rfl
  | movRR dst src => cases dst <;> cases src <;> rfl
  | movRM dst => cases dst <;> rfl
  | movMR src => cases src <;> rfl
  | mvi o d8 => cases o with | m => rfl | reg r => cases r <;> rfl
  | lxi p d16 => cases p <;> rfl
  | ldax p => cases p <;> rfl
  | stax p => cases p <;> rfl
  | jumpIf cond adr => cases cond <;> rfl
  | callIf cond adr => cases cond <;> rfl
  | retIf cond => cases cond <;> rfl
  | rst n => fin_cases n <;> rfl
  | push p => cases p <;> rfl
  | pop p => cases p <;> rfl
  | unassigned slot => cases slot <;> rfl
  | _ => rfl

/-- The effect of a rule family on the state. -/
def effect (s : State) : Form → State
  | .alu op src => s.alu op src
  | .inr o => s.inr o
  | .dcr o => s.dcr o
  | .daa | .nop | .unassigned _ | .ei | .di => s.advance 1
  | .inx p => s.inx p
  | .dcx p => s.dcx p
  | .dad p => s.dad p
  | .rlc => s.rlc
  | .rrc => s.rrc
  | .ral => s.ral
  | .rar => s.rar
  | .cma => s.cma
  | .cmc => s.withCarry (!s.flags.cy)
  | .stc => s.withCarry true
  | .movRR dst src => s.mov (.reg dst) (.reg src)
  | .movRM dst => s.mov (.reg dst) .m
  | .movMR src => s.mov .m (.reg src)
  | .mvi o d8 => s.mvi o d8
  | .lxi p d16 => s.lxi p d16
  | .lda adr => s.loadA adr 3
  | .sta adr => s.storeA adr 3
  | .ldax p => s.loadA (s.readPair (indexPair p)) 1
  | .stax p => s.storeA (s.readPair (indexPair p)) 1
  | .shld adr => s.shld adr
  | .lhld adr => s.lhld adr
  | .xchg => s.xchg
  | .jmp adr => s.jumpTo adr
  | .jumpIf cond adr => s.jumpIf cond adr
  | .call adr => s.callTo (s.next 3) adr
  | .callIf cond adr => s.callIf cond adr
  | .ret => s.returnTo
  | .retIf cond => s.retIf cond
  | .rst n => s.rst (BitVec.ofNat 3 n.val)
  | .pchl => s.jumpTo s.regs.hl
  | .sphl => (s.writePair .sp s.regs.hl).advance 1
  | .hlt => s.halt
  | .push p => s.pushPair p
  | .pop p => s.popPair p
  | .pushPsw => s.pushStatus
  | .popPsw => s.popStatus
  | .xthl => s.exchangeTop
  | .inPort d8 => s.input d8
  | .outPort d8 => s.output d8

/-- `exec` always answers a next state: the effect of the instruction's family. -/
theorem exec_eq (i : Instr) (s : State) : exec i s = .next (effect s i.form) := by cases i <;> rfl

/-- The same from the family's side. -/
theorem exec_instr (f : Form) (s : State) : exec f.instr s = .next (effect s f) := by
  rw [exec_eq, form_instr]

/-- The only next state of `exec`. -/
theorem exec_next_iff (i : Instr) (s t : State) : exec i s = .next t ↔ effect s i.form = t := by
  rw [exec_eq]
  exact ⟨fun h => by injection h, fun h => by rw [h]⟩

/-! ## What a step can do -/

/-- Every opcode has a row, so the bytes fetched always decode. -/
theorem shapeOf_isSome (op : Byte) : ∃ sh, shapeOf op = some sh :=
  Option.isSome_iff_exists.1 ((by decide : ∀ op : Byte, (shapeOf op).isSome = true) op)

/-- A step of a faulted machine. -/
theorem stepIn_faulted (mode : UnsourcedMode) (s : State) (r : FaultRecord) (h : s.fault = some r) :
    stepIn mode s = .fault (.unimplementedOpcode r.opcode r.address) := by
  simp [stepIn, h]

/-- A step of a machine that does not run. -/
theorem stepIn_idle (mode : UnsourcedMode) (s : State) (h : s.fault = none) (hr : s.run = false) :
    stepIn mode s = .next s := by
  simp [stepIn, h, hr]

/-- A step of an enabled machine is one instruction. -/
theorem stepIn_enabled (mode : UnsourcedMode) (s : State) (h : s.fault = none) (hr : s.run = true) :
    stepIn mode s = s.executeOne mode := by
  simp [stepIn, h, hr]

/-- The fetch reads as many bytes as the opcode's row has. -/
theorem opLength_shape : ∀ op : Byte,
    (match shapeOf op with
      | some (.f1 _) => opLength op == 1
      | some (.f2 _) => opLength op == 2
      | some (.f3 _) => opLength op == 3
      | none => false) = true := by
  decide

/-- So the bytes fetched decode, with none left over. -/
theorem decode_fetchBytes (s : State) : ∃ i, decode s.fetchBytes = .ok (i, []) := by
  have len := opLength_shape s.opcode
  have first : s.readByte (s.pc + BitVec.ofNat 16 0) = s.opcode := by simp [State.opcode]
  have pc : s.readByte s.pc = s.opcode := rfl
  cases h : shapeOf s.opcode with
  | none => simp [h] at len
  | some sh => cases sh <;> simp [h] at len <;> simp [State.fetchBytes, len, List.range_succ, decode, h, pc]

/-- What a step can do: nothing while `run` is false, the raise on a Tier G byte in mode `fault`, or one instruction. -/
theorem stepIn_cases {mode : UnsourcedMode} {s t : State} (h : stepIn mode s = .next t) :
    s.fault = none ∧
      ((s.run = false ∧ t = s) ∨
        (s.run = true ∧ mode = .fault ∧ tierOf s.opcode = .g ∧ t = s.raiseUnimplemented s.opcode s.pc) ∨
        (s.run = true ∧ ∃ i, decode s.fetchBytes = .ok (i, []) ∧ t = effect s i.form)) := by
  cases hf : s.fault with
  | some r => rw [stepIn_faulted _ _ _ hf] at h; cases h
  | none =>
    refine ⟨rfl, ?_⟩
    cases hr : s.run with
    | false =>
      rw [stepIn_idle _ _ hf hr] at h
      cases h
      exact .inl ⟨rfl, rfl⟩
    | true =>
      rw [stepIn_enabled _ _ hf hr, State.executeOne] at h
      refine .inr ?_
      split at h
      · rename_i raises
        cases h
        cases mode with
        | execute => cases raises
        | fault => exact .inl ⟨rfl, rfl, by simpa [raisesIn] using raises, rfl⟩
      · obtain ⟨i, hi⟩ := decode_fetchBytes s
        simp only [hi, exec_eq] at h
        cases h
        exact .inr ⟨rfl, i, hi, rfl⟩

end Sys2Proof.Machine
end

