-- ==== Sys2Proof/Laws/Operations.lean ====
section
/-! SUPPORT. What each shared operation does, said once: addition, subtraction and their flags, the pairs, the stack, wide
accesses, conditions. Proofs about instructions cite these and do not unfold the operations. -/

namespace Sys2Proof.Machine

/-! ## Bytes -/

theorem toNat_and_low (x : Byte) : (x &&& 0x0F#8).toNat = x.toNat % 16 := by
  rw [BitVec.toNat_and]
  exact Nat.and_two_pow_sub_one_eq_mod x.toNat 4

theorem toNat_not_and_low (x : Byte) : (~~~x &&& 0x0F#8).toNat = 15 - x.toNat % 16 := by
  have := x.isLt
  rw [toNat_and_low, BitVec.toNat_not]
  omega

/-- Address arithmetic on the two bytes of a push. -/
theorem sub_one_ne_sub_two (a : Word) : a - 1 ≠ a - 2 := by
  intro h
  have : a - 1 - (a - 2) = 0 := by rw [h]; simp
  have e : a - 1 - (a - 2) = 1 := by bv_omega
  rw [e] at this
  exact absurd this (by decide)

theorem add_one_ne (a : Word) : a + 1 ≠ a := by
  intro h
  have e : a + 1 - a = 1 := by bv_omega
  rw [h] at e
  simp at e

/-! ## Flags -/

theorem parity8_eq (v : Byte) : parity8 v = decide (onesIn v % 2 = 0) := by
  revert v
  decide

/-- `Z`, `S`, `P` of every ALU result. -/
theorem resultFlags_ofAlu (f : Flags) (r : AluOut) : ResultFlags r.res (f.ofAlu r) := by
  refine ⟨?_, ?_, parity8_eq _⟩
  · rw [Flags.ofAlu_z, Bool.eq_iff_iff]
    simp only [beq_iff_eq, decide_eq_true_iff]
    exact ⟨fun h => by rw [h]; rfl, fun h => BitVec.eq_of_toNat_eq (by simpa using h)⟩
  · rw [Flags.ofAlu_s, BitVec.msb_eq_getLsbD_last]

/-- `Z`, `S`, `P` of every count. -/
theorem resultFlags_ofCount (f : Flags) (r : AluOut) : ResultFlags r.res (f.ofCount r) := resultFlags_ofAlu f r

/-- `Add8` as arithmetic. -/
theorem add8_res (x y : Byte) (cin : Bool) : (add8 x y cin).res.toNat = (x.toNat + y.toNat + cin.toNat) % 256 := by
  simp [add8]

theorem add8_cy (x y : Byte) (cin : Bool) : (add8 x y cin).cy = decide (x.toNat + y.toNat + cin.toNat > 255) := rfl

theorem add8_ac (x y : Byte) (cin : Bool) :
    (add8 x y cin).ac = decide (x.toNat % 16 + y.toNat % 16 + cin.toNat > 15) := by
  simp only [add8, toNat_and_low]

/-- `Sub8` as arithmetic. -/
theorem sub8_res (x y : Byte) (bin : Bool) :
    (sub8 x y bin).res.toNat = (x.toNat + 256 - y.toNat - bin.toNat) % 256 := by
  have := x.isLt
  have := y.isLt
  have := bin.toNat_le
  simp only [sub8, BitVec.toNat_ofNat]
  omega

theorem sub8_cy (x y : Byte) (bin : Bool) : (sub8 x y bin).cy = decide (x.toNat < y.toNat + bin.toNat) := by
  have := x.isLt
  have := y.isLt
  have := bin.toNat_le
  simp only [sub8, Nat.testBit_eq_decide_div_mod_eq]
  rw [decide_eq_decide]
  omega

theorem sub8_ac (x y : Byte) (bin : Bool) :
    (sub8 x y bin).ac = decide (x.toNat % 16 ≥ y.toNat % 16 + bin.toNat) := by
  have := bin.toNat_le
  simp only [sub8]
  rw [toNat_not_and_low, toNat_and_low]
  rw [decide_eq_decide]
  omega

/-- The condition a conditional instruction tests is the table's. -/
theorem cond_iff (f : Flags) (k : Cond) : f.cond k = true ↔ ConditionHolds f k := by
  cases k <;> simp [Flags.cond, ConditionHolds]

/-- POP PSW undoes what PUSH PSW stores of the flags. -/
theorem ofByte_toByte (f : Flags) : Flags.ofByte f.toByte = f := by
  obtain ⟨z, s, p, cy, ac⟩ := f
  revert z s p cy ac
  decide

/-! ## Registers and pairs -/

theorem sameRegsBut_set (s t : State) (r : Reg) (v : Byte) (h : t.regs = s.regs.set r v) : SameRegsBut r s t :=
  fun q ne => by rw [h, Regs.get_set_other _ _ _ _ ne]

theorem readOperand_m_eq (s : State) : s.readOperand .m = s.readByte (addressM s) := by
  simp [addressM, Regs.hl, cat_eq_pairOf]

theorem hl_eq_addressM (s : State) : s.regs.hl = addressM s := cat_eq_pairOf _ _

theorem readSrc_eq (s : State) (src : AluSrc) : s.readSrc src = sourceByte s src := by
  cases src with
  | m => exact readOperand_m_eq s
  | _ => rfl

theorem next_srcLength (s : State) (src : AluSrc) : s.next (srcLength src) = afterAlu s src := by
  cases src <;> rfl

theorem readPair_eq (s : State) (p : Pair) : s.readPair p = pairValue s p := by
  cases p with
  | sp => rfl
  | _ => exact cat_eq_pairOf _ _

/-- What `writePair` does, also after later updates that keep the registers and `sp`. -/
theorem pairWritten_of (s t : State) (p : Pair) (v : Word) (hr : t.regs = (s.writePair p v).regs)
    (hs : t.sp = (s.writePair p v).sp) : PairWritten s t v p := by
  cases p <;> exact ⟨by rw [hr]; simp [State.writePair, Regs.setBc, Regs.setDe, Regs.setHl, hi_eq_highHalf,
    lo_eq_lowHalf], hs⟩

/-! ## Memory and stack -/

theorem sameMemory_of_mem (s t : State) (h : t.mem = s.mem) : SameMemory s t := State.readByte_of_mem_eq h

theorem readByte_writeByte (s : State) (a b : Word) (v : Byte) (h : Memory.wf s.mem = true) :
    (s.writeByte a v).readByte b = if b = a then v else s.readByte b := by
  split
  · rename_i e
    rw [e, State.readByte_writeByte_same _ _ _ h]
  · rename_i e
    exact State.readByte_writeByte_other _ _ _ _ e

/-- What a store of one byte does, also after later updates that keep memory. -/
theorem storesByte (s t : State) (a : Word) (v : Byte) (h : Memory.wf s.mem = true)
    (hm : t.mem = (s.writeByte a v).mem) : t.readByte a = v ∧ SameMemoryOutside [a] s t := by
  refine ⟨?_, fun b hb => ?_⟩ <;> rw [State.readByte_of_mem_eq hm, readByte_writeByte _ _ _ _ h]
  · simp
  · simp only [List.mem_singleton] at hb
    simp [hb]

/-- What two stores of a byte at two addresses do, also after later updates that keep memory. -/
theorem storesTwo (s t : State) (a b : Word) (v w : Byte) (ne : a ≠ b) (h : Memory.wf s.mem = true)
    (hm : t.mem = ((s.writeByte a v).writeByte b w).mem) :
    t.readByte a = v ∧ t.readByte b = w ∧ SameMemoryOutside [a, b] s t := by
  have h' := State.writeByte_wf s a v h
  refine ⟨?_, ?_, fun c hc => ?_⟩ <;> rw [State.readByte_of_mem_eq hm, readByte_writeByte _ _ _ _ h']
  · rw [if_neg ne, State.readByte_writeByte_same _ _ _ h]
  · simp
  · simp only [List.mem_cons, List.not_mem_nil, or_false, not_or] at hc
    rw [if_neg hc.2, readByte_writeByte _ _ _ _ h, if_neg hc.1]

/-- What `writeWord` does: low byte at the address, high byte at the next. -/
theorem storesWord (s t : State) (a v : Word) (h : Memory.wf s.mem = true) (hm : t.mem = (s.writeWord a v).mem) :
    t.readByte a = lo v ∧ t.readByte (a + 1) = hi v ∧ SameMemoryOutside [a, a + 1] s t :=
  storesTwo s t a (a + 1) (lo v) (hi v) (add_one_ne a).symm h hm

/-- What `Push16` does: high byte at `sp - 1`, low byte at `sp - 2`. -/
theorem pushes (s t : State) (v : Word) (h : Memory.wf s.mem = true) (hm : t.mem = (s.push16 v).mem) :
    t.readByte (s.sp - 1) = hi v ∧ t.readByte (s.sp - 2) = lo v ∧ SameMemoryOutside [s.sp - 1, s.sp - 2] s t :=
  storesTwo s t (s.sp - 1) (s.sp - 2) (hi v) (lo v) (sub_one_ne_sub_two s.sp) h hm

/-- What a `Pop16` right after a `Push16` returns. -/
theorem stackTop_of_push (s t : State) (v : Word) (h : Memory.wf s.mem = true) (hm : t.mem = (s.push16 v).mem)
    (hs : t.sp = s.sp - 2) : t.stackTop = v := by
  obtain ⟨h1, h2, -⟩ := pushes s t v h hm
  have e : s.sp - 2 + 1 = s.sp - 1 := by bv_omega
  rw [State.stackTop, hs, e, h1, h2, cat_hi_lo]

end Sys2Proof.Machine
end

