-- ==== Sys2Proof/Laws/PerInstr.lean ====
section
/-! SUPPORT. Statements made per instruction, one lemma per constructor of `Instr` (named in LAWS.json). -/

namespace Sys2Proof.Laws.EncodedLength

/-- The encoding of an instruction has the length that its opcode byte alone gives (30_encoding.md R72). -/
def Statement (i : Instr) : Prop :=
  (encode i).head?.map opLength = some (encode i).length

theorem nop : Statement (.nop) := rfl
theorem lxiB (d16 : Word) : Statement (.lxiB d16) := rfl
theorem staxB : Statement (.staxB) := rfl
theorem inxB : Statement (.inxB) := rfl
theorem inrB : Statement (.inrB) := rfl
theorem dcrB : Statement (.dcrB) := rfl
theorem mviB (d8 : Byte) : Statement (.mviB d8) := rfl
theorem rlc : Statement (.rlc) := rfl
theorem nop08 : Statement (.nop08) := rfl
theorem dadB : Statement (.dadB) := rfl
theorem ldaxB : Statement (.ldaxB) := rfl
theorem dcxB : Statement (.dcxB) := rfl
theorem inrC : Statement (.inrC) := rfl
theorem dcrC : Statement (.dcrC) := rfl
theorem mviC (d8 : Byte) : Statement (.mviC d8) := rfl
theorem rrc : Statement (.rrc) := rfl
theorem nop10 : Statement (.nop10) := rfl
theorem lxiD (d16 : Word) : Statement (.lxiD d16) := rfl
theorem staxD : Statement (.staxD) := rfl
theorem inxD : Statement (.inxD) := rfl
theorem inrD : Statement (.inrD) := rfl
theorem dcrD : Statement (.dcrD) := rfl
theorem mviD (d8 : Byte) : Statement (.mviD d8) := rfl
theorem ral : Statement (.ral) := rfl
theorem nop18 : Statement (.nop18) := rfl
theorem dadD : Statement (.dadD) := rfl
theorem ldaxD : Statement (.ldaxD) := rfl
theorem dcxD : Statement (.dcxD) := rfl
theorem inrE : Statement (.inrE) := rfl
theorem dcrE : Statement (.dcrE) := rfl
theorem mviE (d8 : Byte) : Statement (.mviE d8) := rfl
theorem rar : Statement (.rar) := rfl
theorem nop20 : Statement (.nop20) := rfl
theorem lxiH (d16 : Word) : Statement (.lxiH d16) := rfl
theorem shld (adr : Word) : Statement (.shld adr) := rfl
theorem inxH : Statement (.inxH) := rfl
theorem inrH : Statement (.inrH) := rfl
theorem dcrH : Statement (.dcrH) := rfl
theorem mviH (d8 : Byte) : Statement (.mviH d8) := rfl
theorem daa : Statement (.daa) := rfl
theorem nop28 : Statement (.nop28) := rfl
theorem dadH : Statement (.dadH) := rfl
theorem lhld (adr : Word) : Statement (.lhld adr) := rfl
theorem dcxH : Statement (.dcxH) := rfl
theorem inrL : Statement (.inrL) := rfl
theorem dcrL : Statement (.dcrL) := rfl
theorem mviL (d8 : Byte) : Statement (.mviL d8) := rfl
theorem cma : Statement (.cma) := rfl
theorem nop30 : Statement (.nop30) := rfl
theorem lxiSp (d16 : Word) : Statement (.lxiSp d16) := rfl
theorem sta (adr : Word) : Statement (.sta adr) := rfl
theorem inxSp : Statement (.inxSp) := rfl
theorem inrM : Statement (.inrM) := rfl
theorem dcrM : Statement (.dcrM) := rfl
theorem mviM (d8 : Byte) : Statement (.mviM d8) := rfl
theorem stc : Statement (.stc) := rfl
theorem nop38 : Statement (.nop38) := rfl
theorem dadSp : Statement (.dadSp) := rfl
theorem lda (adr : Word) : Statement (.lda adr) := rfl
theorem dcxSp : Statement (.dcxSp) := rfl
theorem inrA : Statement (.inrA) := rfl
theorem dcrA : Statement (.dcrA) := rfl
theorem mviA (d8 : Byte) : Statement (.mviA d8) := rfl
theorem cmc : Statement (.cmc) := rfl
theorem movBB : Statement (.movBB) := rfl
theorem movBC : Statement (.movBC) := rfl
theorem movBD : Statement (.movBD) := rfl
theorem movBE : Statement (.movBE) := rfl
theorem movBH : Statement (.movBH) := rfl
theorem movBL : Statement (.movBL) := rfl
theorem movBM : Statement (.movBM) := rfl
theorem movBA : Statement (.movBA) := rfl
theorem movCB : Statement (.movCB) := rfl
theorem movCC : Statement (.movCC) := rfl
theorem movCD : Statement (.movCD) := rfl
theorem movCE : Statement (.movCE) := rfl
theorem movCH : Statement (.movCH) := rfl
theorem movCL : Statement (.movCL) := rfl
theorem movCM : Statement (.movCM) := rfl
theorem movCA : Statement (.movCA) := rfl
theorem movDB : Statement (.movDB) := rfl
theorem movDC : Statement (.movDC) := rfl
theorem movDD : Statement (.movDD) := rfl
theorem movDE : Statement (.movDE) := rfl
theorem movDH : Statement (.movDH) := rfl
theorem movDL : Statement (.movDL) := rfl
theorem movDM : Statement (.movDM) := rfl
theorem movDA : Statement (.movDA) := rfl
theorem movEB : Statement (.movEB) := rfl
theorem movEC : Statement (.movEC) := rfl
theorem movED : Statement (.movED) := rfl
theorem movEE : Statement (.movEE) := rfl
theorem movEH : Statement (.movEH) := rfl
theorem movEL : Statement (.movEL) := rfl
theorem movEM : Statement (.movEM) := rfl
theorem movEA : Statement (.movEA) := rfl
theorem movHB : Statement (.movHB) := rfl
theorem movHC : Statement (.movHC) := rfl
theorem movHD : Statement (.movHD) := rfl
theorem movHE : Statement (.movHE) := rfl
theorem movHH : Statement (.movHH) := rfl
theorem movHL : Statement (.movHL) := rfl
theorem movHM : Statement (.movHM) := rfl
theorem movHA : Statement (.movHA) := rfl
theorem movLB : Statement (.movLB) := rfl
theorem movLC : Statement (.movLC) := rfl
theorem movLD : Statement (.movLD) := rfl
theorem movLE : Statement (.movLE) := rfl
theorem movLH : Statement (.movLH) := rfl
theorem movLL : Statement (.movLL) := rfl
theorem movLM : Statement (.movLM) := rfl
theorem movLA : Statement (.movLA) := rfl
theorem movMB : Statement (.movMB) := rfl
theorem movMC : Statement (.movMC) := rfl
theorem movMD : Statement (.movMD) := rfl
theorem movME : Statement (.movME) := rfl
theorem movMH : Statement (.movMH) := rfl
theorem movML : Statement (.movML) := rfl
theorem hlt : Statement (.hlt) := rfl
theorem movMA : Statement (.movMA) := rfl
theorem movAB : Statement (.movAB) := rfl
theorem movAC : Statement (.movAC) := rfl
theorem movAD : Statement (.movAD) := rfl
theorem movAE : Statement (.movAE) := rfl
theorem movAH : Statement (.movAH) := rfl
theorem movAL : Statement (.movAL) := rfl
theorem movAM : Statement (.movAM) := rfl
theorem movAA : Statement (.movAA) := rfl
theorem addB : Statement (.addB) := rfl
theorem addC : Statement (.addC) := rfl
theorem addD : Statement (.addD) := rfl
theorem addE : Statement (.addE) := rfl
theorem addH : Statement (.addH) := rfl
theorem addL : Statement (.addL) := rfl
theorem addM : Statement (.addM) := rfl
theorem addA : Statement (.addA) := rfl
theorem adcB : Statement (.adcB) := rfl
theorem adcC : Statement (.adcC) := rfl
theorem adcD : Statement (.adcD) := rfl
theorem adcE : Statement (.adcE) := rfl
theorem adcH : Statement (.adcH) := rfl
theorem adcL : Statement (.adcL) := rfl
theorem adcM : Statement (.adcM) := rfl
theorem adcA : Statement (.adcA) := rfl
theorem subB : Statement (.subB) := rfl
theorem subC : Statement (.subC) := rfl
theorem subD : Statement (.subD) := rfl
theorem subE : Statement (.subE) := rfl
theorem subH : Statement (.subH) := rfl
theorem subL : Statement (.subL) := rfl
theorem subM : Statement (.subM) := rfl
theorem subA : Statement (.subA) := rfl
theorem sbbB : Statement (.sbbB) := rfl
theorem sbbC : Statement (.sbbC) := rfl
theorem sbbD : Statement (.sbbD) := rfl
theorem sbbE : Statement (.sbbE) := rfl
theorem sbbH : Statement (.sbbH) := rfl
theorem sbbL : Statement (.sbbL) := rfl
theorem sbbM : Statement (.sbbM) := rfl
theorem sbbA : Statement (.sbbA) := rfl
theorem anaB : Statement (.anaB) := rfl
theorem anaC : Statement (.anaC) := rfl
theorem anaD : Statement (.anaD) := rfl
theorem anaE : Statement (.anaE) := rfl
theorem anaH : Statement (.anaH) := rfl
theorem anaL : Statement (.anaL) := rfl
theorem anaM : Statement (.anaM) := rfl
theorem anaA : Statement (.anaA) := rfl
theorem xraB : Statement (.xraB) := rfl
theorem xraC : Statement (.xraC) := rfl
theorem xraD : Statement (.xraD) := rfl
theorem xraE : Statement (.xraE) := rfl
theorem xraH : Statement (.xraH) := rfl
theorem xraL : Statement (.xraL) := rfl
theorem xraM : Statement (.xraM) := rfl
theorem xraA : Statement (.xraA) := rfl
theorem oraB : Statement (.oraB) := rfl
theorem oraC : Statement (.oraC) := rfl
theorem oraD : Statement (.oraD) := rfl
theorem oraE : Statement (.oraE) := rfl
theorem oraH : Statement (.oraH) := rfl
theorem oraL : Statement (.oraL) := rfl
theorem oraM : Statement (.oraM) := rfl
theorem oraA : Statement (.oraA) := rfl
theorem cmpB : Statement (.cmpB) := rfl
theorem cmpC : Statement (.cmpC) := rfl
theorem cmpD : Statement (.cmpD) := rfl
theorem cmpE : Statement (.cmpE) := rfl
theorem cmpH : Statement (.cmpH) := rfl
theorem cmpL : Statement (.cmpL) := rfl
theorem cmpM : Statement (.cmpM) := rfl
theorem cmpA : Statement (.cmpA) := rfl
theorem rnz : Statement (.rnz) := rfl
theorem popB : Statement (.popB) := rfl
theorem jnz (adr : Word) : Statement (.jnz adr) := rfl
theorem jmp (adr : Word) : Statement (.jmp adr) := rfl
theorem cnz (adr : Word) : Statement (.cnz adr) := rfl
theorem pushB : Statement (.pushB) := rfl
theorem adi (d8 : Byte) : Statement (.adi d8) := rfl
theorem rst0 : Statement (.rst0) := rfl
theorem rz : Statement (.rz) := rfl
theorem ret : Statement (.ret) := rfl
theorem jz (adr : Word) : Statement (.jz adr) := rfl
theorem nopCB : Statement (.nopCB) := rfl
theorem cz (adr : Word) : Statement (.cz adr) := rfl
theorem call (adr : Word) : Statement (.call adr) := rfl
theorem aci (d8 : Byte) : Statement (.aci d8) := rfl
theorem rst1 : Statement (.rst1) := rfl
theorem rnc : Statement (.rnc) := rfl
theorem popD : Statement (.popD) := rfl
theorem jnc (adr : Word) : Statement (.jnc adr) := rfl
theorem outPort (d8 : Byte) : Statement (.outPort d8) := rfl
theorem cnc (adr : Word) : Statement (.cnc adr) := rfl
theorem pushD : Statement (.pushD) := rfl
theorem sui (d8 : Byte) : Statement (.sui d8) := rfl
theorem rst2 : Statement (.rst2) := rfl
theorem rc : Statement (.rc) := rfl
theorem nopD9 : Statement (.nopD9) := rfl
theorem jc (adr : Word) : Statement (.jc adr) := rfl
theorem inPort (d8 : Byte) : Statement (.inPort d8) := rfl
theorem cc (adr : Word) : Statement (.cc adr) := rfl
theorem nopDD : Statement (.nopDD) := rfl
theorem sbi (d8 : Byte) : Statement (.sbi d8) := rfl
theorem rst3 : Statement (.rst3) := rfl
theorem rpo : Statement (.rpo) := rfl
theorem popH : Statement (.popH) := rfl
theorem jpo (adr : Word) : Statement (.jpo adr) := rfl
theorem xthl : Statement (.xthl) := rfl
theorem cpo (adr : Word) : Statement (.cpo adr) := rfl
theorem pushH : Statement (.pushH) := rfl
theorem ani (d8 : Byte) : Statement (.ani d8) := rfl
theorem rst4 : Statement (.rst4) := rfl
theorem rpe : Statement (.rpe) := rfl
theorem pchl : Statement (.pchl) := rfl
theorem jpe (adr : Word) : Statement (.jpe adr) := rfl
theorem xchg : Statement (.xchg) := rfl
theorem cpe (adr : Word) : Statement (.cpe adr) := rfl
theorem nopED : Statement (.nopED) := rfl
theorem xri (d8 : Byte) : Statement (.xri d8) := rfl
theorem rst5 : Statement (.rst5) := rfl
theorem rp : Statement (.rp) := rfl
theorem popPsw : Statement (.popPsw) := rfl
theorem jp (adr : Word) : Statement (.jp adr) := rfl
theorem di : Statement (.di) := rfl
theorem cp (adr : Word) : Statement (.cp adr) := rfl
theorem pushPsw : Statement (.pushPsw) := rfl
theorem ori (d8 : Byte) : Statement (.ori d8) := rfl
theorem rst6 : Statement (.rst6) := rfl
theorem rm : Statement (.rm) := rfl
theorem sphl : Statement (.sphl) := rfl
theorem jm (adr : Word) : Statement (.jm adr) := rfl
theorem ei : Statement (.ei) := rfl
theorem cm (adr : Word) : Statement (.cm adr) := rfl
theorem nopFD : Statement (.nopFD) := rfl
theorem cpi (d8 : Byte) : Statement (.cpi d8) := rfl
theorem rst7 : Statement (.rst7) := rfl

end Sys2Proof.Laws.EncodedLength
end

