-- ==== Sys2Proof/Laws/Run.lean ====
section
/-! SUPPORT. Laws of the invariant, of histories and of the run: the invariant by the view, the induction over a history said
once, and one unfolding of the run per case. -/

namespace Sys2Proof.Machine

/-! ## The invariant -/

theorem sound_iff_of_unfaulted {s : State} (h : s.fault = none) : Sound s ↔ Memory.wf s.mem = true := by
  rw [Sound, State.view_unfaulted s h]

theorem sound_iff_of_faulted {s : State} {r : FaultRecord} (h : s.fault = some r) : Sound s ↔ tierOf r.opcode = .g := by
  rw [Sound, State.view_faulted s r h]

/-! ## Histories -/

theorem history_nil (mode : UnsourcedMode) (s : State) : s.history mode [] = .next s := rfl

theorem history_cons_next {mode : UnsourcedMode} {s t : State} {e : Event} (es : List Event) (h : s.happen mode e = .next t) :
    s.history mode (e :: es) = t.history mode es := by
  simp [State.history, h]

/-- A history that answers a next state answers one for its first event. -/
theorem history_cons {mode : UnsourcedMode} {s t : State} {e : Event} {es : List Event}
    (h : s.history mode (e :: es) = .next t) : ∃ u, s.happen mode e = .next u ∧ u.history mode es = .next t := by
  rw [State.history] at h
  split at h
  · rename_i u hu
    exact ⟨u, hu, h⟩
  · cases h
  · cases h

/-- What every step and every move of a history keeps, the history keeps. -/
theorem history_keeps {P : State → Prop} {mode : UnsourcedMode} (events : List Event)
    (steps : ∀ s t, P s → stepIn mode s = .next t → P t)
    (moves : ∀ s move, Event.drive move ∈ events → P s → P (s.drive move)) (s t : State) (hs : P s)
    (h : s.history mode events = .next t) : P t := by
  induction events generalizing s with
  | nil => cases h; exact hs
  | cons e es ih =>
    obtain ⟨u, hu, hes⟩ := history_cons h
    refine ih (fun s move he => moves s move (List.mem_cons_of_mem _ he)) u ?_ hes
    cases e with
    | step => exact steps s u hs hu
    | drive move => cases hu; exact moves s move List.mem_cons_self hs

/-- What every step keeps, any number of steps keeps. -/
theorem history_steps_keep {P : State → Prop} {mode : UnsourcedMode} (steps : ∀ s t, P s → stepIn mode s = .next t → P t)
    (k : Nat) (s t : State) (hs : P s) (h : s.history mode (List.replicate k .step) = .next t) : P t :=
  history_keeps _ steps (fun _ _ he => by cases List.eq_of_mem_replicate he) s t hs h

/-! ## The run -/

theorem runFor_zero (mode : UnsourcedMode) (s : State) : s.runFor mode 0 = .unfinished s := rfl

/-- A machine that does not run has not ended. -/
theorem runFor_idle (mode : UnsourcedMode) (n : Nat) (s : State) (h : s.run = false) : s.runFor mode n = .unfinished s := by
  cases n <;> simp [State.runFor, h]

/-- A step after which the machine is still enabled. -/
theorem runFor_continues {mode : UnsourcedMode} {s t : State} (n : Nat) (hs : s.run = true) (h : stepIn mode s = .next t)
    (ht : Enabled t) : s.runFor mode (n + 1) = t.runFor mode n := by
  simp [State.runFor, hs, h, State.view_unfaulted t ht.2, ht.1]

/-- A step that clears the run flag. -/
theorem runFor_ends {mode : UnsourcedMode} {s t : State} (n : Nat) (hs : s.run = true) (h : stepIn mode s = .next t)
    (ht : Halted t) : s.runFor mode (n + 1) = .ended t := by
  simp [State.runFor, hs, h, State.view_unfaulted t ht.2, ht.1]

/-- A step that raises. -/
theorem runFor_raises {mode : UnsourcedMode} {s t : State} {r : FaultRecord} (n : Nat) (hs : s.run = true)
    (h : stepIn mode s = .next t) (ht : t.fault = some r) : s.runFor mode (n + 1) = .faulted r := by
  simp [State.runFor, hs, h, State.view_faulted t r ht]

/-- The launch leaves an enabled machine. -/
theorem launch_enabled {spReset : Word} {image : List Byte} {s : State} (h : State.launch spReset image = .ok s) :
    Enabled s := by
  simp only [State.launch, State.create] at h
  split at h
  · rename_i u hu
    split at hu
    · cases hu
      cases h
      exact ⟨rfl, rfl⟩
    · cases hu
  · cases h

end Sys2Proof.Machine
end

