-- ==== Sys2Proof/Tests/Slice0.lean ====
section
/-! SUPPORT. The model's own tests. Every expected value is the spec's: the opcode listing of 30_encoding.md section 4 and the
vectors of 95_test_vectors.md (named in the comments), not the model's answer. Last come the witnesses: for each statement with
hypotheses, a concrete state and operands that meet all of them. -/

open Sys2Proof Sys2Proof.Machine

namespace Sys2Proof.Tests

/-! ## Helpers -/

/-- A machine about to run the bytes listed, at `pc`. -/
def start (pc sp : Word) (cells : List (Word × Byte)) : State :=
  cells.foldl (fun s c => s.writeByte c.1 c.2) { State.reset with pc := pc, sp := sp, run := true }

/-- All five flags at one value. -/
def allFlags (b : Bool) : Flags := ⟨b, b, b, b, b⟩

/-- One step answers a next state, and it has a property. -/
def after (s : State) (p : State → Bool) : Bool :=
  match step s with
  | .next t => p t
  | .fault _ => false
  | .refused _ => false

/-- Bytes decode to the instruction beside them, with nothing left over. -/
def decodesAll (rows : List (List Byte × Instr)) : Bool :=
  rows.all fun r =>
    match decode r.1 with
    | .ok (i, []) => decide (i = r.2)
    | _ => false

/-! ## WellFormed smoke test: one ill-formed image; no instruction of this hardware is ill-formed -/

theorem test_image_of_65537_bytes_is_ill_formed : imageWellFormed (List.replicate 65537 0x00#8) = false := by
  simp only [imageWellFormed, List.length_replicate]
  decide

theorem test_image_of_65536_bytes_is_well_formed : imageWellFormed (List.replicate 65536 0x00#8) = true := by
  simp only [imageWellFormed, List.length_replicate]
  decide

/-! ## Decoding: the 256 rows of 30_encoding.md section 4, each byte in binary as the listing prints it -/

theorem test_decode_row_0x : decodesAll [
    ([0b00000000#8], .nop), ([0b00000001#8, 0x34#8, 0x12#8], .lxiB 0x1234#16), ([0b00000010#8], .staxB),
    ([0b00000011#8], .inxB), ([0b00000100#8], .inrB), ([0b00000101#8], .dcrB), ([0b00000110#8, 0x9A#8], .mviB 0x9A#8),
    ([0b00000111#8], .rlc), ([0b00001000#8], .nop08), ([0b00001001#8], .dadB), ([0b00001010#8], .ldaxB),
    ([0b00001011#8], .dcxB), ([0b00001100#8], .inrC), ([0b00001101#8], .dcrC), ([0b00001110#8, 0x9A#8], .mviC 0x9A#8),
    ([0b00001111#8], .rrc)] = true := by decide

theorem test_decode_row_1x : decodesAll [
    ([0b00010000#8], .nop10), ([0b00010001#8, 0x34#8, 0x12#8], .lxiD 0x1234#16), ([0b00010010#8], .staxD),
    ([0b00010011#8], .inxD), ([0b00010100#8], .inrD), ([0b00010101#8], .dcrD), ([0b00010110#8, 0x9A#8], .mviD 0x9A#8),
    ([0b00010111#8], .ral), ([0b00011000#8], .nop18), ([0b00011001#8], .dadD), ([0b00011010#8], .ldaxD),
    ([0b00011011#8], .dcxD), ([0b00011100#8], .inrE), ([0b00011101#8], .dcrE), ([0b00011110#8, 0x9A#8], .mviE 0x9A#8),
    ([0b00011111#8], .rar)] = true := by decide

theorem test_decode_row_2x : decodesAll [
    ([0b00100000#8], .nop20), ([0b00100001#8, 0x34#8, 0x12#8], .lxiH 0x1234#16),
    ([0b00100010#8, 0x34#8, 0x12#8], .shld 0x1234#16), ([0b00100011#8], .inxH), ([0b00100100#8], .inrH),
    ([0b00100101#8], .dcrH), ([0b00100110#8, 0x9A#8], .mviH 0x9A#8), ([0b00100111#8], .daa), ([0b00101000#8], .nop28),
    ([0b00101001#8], .dadH), ([0b00101010#8, 0x34#8, 0x12#8], .lhld 0x1234#16), ([0b00101011#8], .dcxH),
    ([0b00101100#8], .inrL), ([0b00101101#8], .dcrL), ([0b00101110#8, 0x9A#8], .mviL 0x9A#8), ([0b00101111#8], .cma)] = true := by decide

theorem test_decode_row_3x : decodesAll [
    ([0b00110000#8], .nop30), ([0b00110001#8, 0x34#8, 0x12#8], .lxiSp 0x1234#16),
    ([0b00110010#8, 0x34#8, 0x12#8], .sta 0x1234#16), ([0b00110011#8], .inxSp), ([0b00110100#8], .inrM),
    ([0b00110101#8], .dcrM), ([0b00110110#8, 0x9A#8], .mviM 0x9A#8), ([0b00110111#8], .stc), ([0b00111000#8], .nop38),
    ([0b00111001#8], .dadSp), ([0b00111010#8, 0x34#8, 0x12#8], .lda 0x1234#16), ([0b00111011#8], .dcxSp),
    ([0b00111100#8], .inrA), ([0b00111101#8], .dcrA), ([0b00111110#8, 0x9A#8], .mviA 0x9A#8), ([0b00111111#8], .cmc)] = true := by decide

theorem test_decode_row_4x : decodesAll [
    ([0b01000000#8], .movBB), ([0b01000001#8], .movBC), ([0b01000010#8], .movBD), ([0b01000011#8], .movBE),
    ([0b01000100#8], .movBH), ([0b01000101#8], .movBL), ([0b01000110#8], .movBM), ([0b01000111#8], .movBA),
    ([0b01001000#8], .movCB), ([0b01001001#8], .movCC), ([0b01001010#8], .movCD), ([0b01001011#8], .movCE),
    ([0b01001100#8], .movCH), ([0b01001101#8], .movCL), ([0b01001110#8], .movCM), ([0b01001111#8], .movCA)] = true := by decide

theorem test_decode_row_5x : decodesAll [
    ([0b01010000#8], .movDB), ([0b01010001#8], .movDC), ([0b01010010#8], .movDD), ([0b01010011#8], .movDE),
    ([0b01010100#8], .movDH), ([0b01010101#8], .movDL), ([0b01010110#8], .movDM), ([0b01010111#8], .movDA),
    ([0b01011000#8], .movEB), ([0b01011001#8], .movEC), ([0b01011010#8], .movED), ([0b01011011#8], .movEE),
    ([0b01011100#8], .movEH), ([0b01011101#8], .movEL), ([0b01011110#8], .movEM), ([0b01011111#8], .movEA)] = true := by decide

theorem test_decode_row_6x : decodesAll [
    ([0b01100000#8], .movHB), ([0b01100001#8], .movHC), ([0b01100010#8], .movHD), ([0b01100011#8], .movHE),
    ([0b01100100#8], .movHH), ([0b01100101#8], .movHL), ([0b01100110#8], .movHM), ([0b01100111#8], .movHA),
    ([0b01101000#8], .movLB), ([0b01101001#8], .movLC), ([0b01101010#8], .movLD), ([0b01101011#8], .movLE),
    ([0b01101100#8], .movLH), ([0b01101101#8], .movLL), ([0b01101110#8], .movLM), ([0b01101111#8], .movLA)] = true := by decide

theorem test_decode_row_7x : decodesAll [
    ([0b01110000#8], .movMB), ([0b01110001#8], .movMC), ([0b01110010#8], .movMD), ([0b01110011#8], .movME),
    ([0b01110100#8], .movMH), ([0b01110101#8], .movML), ([0b01110110#8], .hlt), ([0b01110111#8], .movMA),
    ([0b01111000#8], .movAB), ([0b01111001#8], .movAC), ([0b01111010#8], .movAD), ([0b01111011#8], .movAE),
    ([0b01111100#8], .movAH), ([0b01111101#8], .movAL), ([0b01111110#8], .movAM), ([0b01111111#8], .movAA)] = true := by decide

theorem test_decode_row_8x : decodesAll [
    ([0b10000000#8], .addB), ([0b10000001#8], .addC), ([0b10000010#8], .addD), ([0b10000011#8], .addE),
    ([0b10000100#8], .addH), ([0b10000101#8], .addL), ([0b10000110#8], .addM), ([0b10000111#8], .addA),
    ([0b10001000#8], .adcB), ([0b10001001#8], .adcC), ([0b10001010#8], .adcD), ([0b10001011#8], .adcE),
    ([0b10001100#8], .adcH), ([0b10001101#8], .adcL), ([0b10001110#8], .adcM), ([0b10001111#8], .adcA)] = true := by decide

theorem test_decode_row_9x : decodesAll [
    ([0b10010000#8], .subB), ([0b10010001#8], .subC), ([0b10010010#8], .subD), ([0b10010011#8], .subE),
    ([0b10010100#8], .subH), ([0b10010101#8], .subL), ([0b10010110#8], .subM), ([0b10010111#8], .subA),
    ([0b10011000#8], .sbbB), ([0b10011001#8], .sbbC), ([0b10011010#8], .sbbD), ([0b10011011#8], .sbbE),
    ([0b10011100#8], .sbbH), ([0b10011101#8], .sbbL), ([0b10011110#8], .sbbM), ([0b10011111#8], .sbbA)] = true := by decide

theorem test_decode_row_Ax : decodesAll [
    ([0b10100000#8], .anaB), ([0b10100001#8], .anaC), ([0b10100010#8], .anaD), ([0b10100011#8], .anaE),
    ([0b10100100#8], .anaH), ([0b10100101#8], .anaL), ([0b10100110#8], .anaM), ([0b10100111#8], .anaA),
    ([0b10101000#8], .xraB), ([0b10101001#8], .xraC), ([0b10101010#8], .xraD), ([0b10101011#8], .xraE),
    ([0b10101100#8], .xraH), ([0b10101101#8], .xraL), ([0b10101110#8], .xraM), ([0b10101111#8], .xraA)] = true := by decide

theorem test_decode_row_Bx : decodesAll [
    ([0b10110000#8], .oraB), ([0b10110001#8], .oraC), ([0b10110010#8], .oraD), ([0b10110011#8], .oraE),
    ([0b10110100#8], .oraH), ([0b10110101#8], .oraL), ([0b10110110#8], .oraM), ([0b10110111#8], .oraA),
    ([0b10111000#8], .cmpB), ([0b10111001#8], .cmpC), ([0b10111010#8], .cmpD), ([0b10111011#8], .cmpE),
    ([0b10111100#8], .cmpH), ([0b10111101#8], .cmpL), ([0b10111110#8], .cmpM), ([0b10111111#8], .cmpA)] = true := by decide

theorem test_decode_row_Cx : decodesAll [
    ([0b11000000#8], .rnz), ([0b11000001#8], .popB), ([0b11000010#8, 0x34#8, 0x12#8], .jnz 0x1234#16),
    ([0b11000011#8, 0x34#8, 0x12#8], .jmp 0x1234#16), ([0b11000100#8, 0x34#8, 0x12#8], .cnz 0x1234#16),
    ([0b11000101#8], .pushB), ([0b11000110#8, 0x9A#8], .adi 0x9A#8), ([0b11000111#8], .rst0), ([0b11001000#8], .rz),
    ([0b11001001#8], .ret), ([0b11001010#8, 0x34#8, 0x12#8], .jz 0x1234#16), ([0b11001011#8], .nopCB),
    ([0b11001100#8, 0x34#8, 0x12#8], .cz 0x1234#16), ([0b11001101#8, 0x34#8, 0x12#8], .call 0x1234#16),
    ([0b11001110#8, 0x9A#8], .aci 0x9A#8), ([0b11001111#8], .rst1)] = true := by decide

theorem test_decode_row_Dx : decodesAll [
    ([0b11010000#8], .rnc), ([0b11010001#8], .popD), ([0b11010010#8, 0x34#8, 0x12#8], .jnc 0x1234#16),
    ([0b11010011#8, 0x9A#8], .outPort 0x9A#8), ([0b11010100#8, 0x34#8, 0x12#8], .cnc 0x1234#16),
    ([0b11010101#8], .pushD), ([0b11010110#8, 0x9A#8], .sui 0x9A#8), ([0b11010111#8], .rst2), ([0b11011000#8], .rc),
    ([0b11011001#8], .nopD9), ([0b11011010#8, 0x34#8, 0x12#8], .jc 0x1234#16),
    ([0b11011011#8, 0x9A#8], .inPort 0x9A#8), ([0b11011100#8, 0x34#8, 0x12#8], .cc 0x1234#16),
    ([0b11011101#8], .nopDD), ([0b11011110#8, 0x9A#8], .sbi 0x9A#8), ([0b11011111#8], .rst3)] = true := by decide

theorem test_decode_row_Ex : decodesAll [
    ([0b11100000#8], .rpo), ([0b11100001#8], .popH), ([0b11100010#8, 0x34#8, 0x12#8], .jpo 0x1234#16),
    ([0b11100011#8], .xthl), ([0b11100100#8, 0x34#8, 0x12#8], .cpo 0x1234#16), ([0b11100101#8], .pushH),
    ([0b11100110#8, 0x9A#8], .ani 0x9A#8), ([0b11100111#8], .rst4), ([0b11101000#8], .rpe), ([0b11101001#8], .pchl),
    ([0b11101010#8, 0x34#8, 0x12#8], .jpe 0x1234#16), ([0b11101011#8], .xchg),
    ([0b11101100#8, 0x34#8, 0x12#8], .cpe 0x1234#16), ([0b11101101#8], .nopED), ([0b11101110#8, 0x9A#8], .xri 0x9A#8),
    ([0b11101111#8], .rst5)] = true := by decide

theorem test_decode_row_Fx : decodesAll [
    ([0b11110000#8], .rp), ([0b11110001#8], .popPsw), ([0b11110010#8, 0x34#8, 0x12#8], .jp 0x1234#16),
    ([0b11110011#8], .di), ([0b11110100#8, 0x34#8, 0x12#8], .cp 0x1234#16), ([0b11110101#8], .pushPsw),
    ([0b11110110#8, 0x9A#8], .ori 0x9A#8), ([0b11110111#8], .rst6), ([0b11111000#8], .rm), ([0b11111001#8], .sphl),
    ([0b11111010#8, 0x34#8, 0x12#8], .jm 0x1234#16), ([0b11111011#8], .ei),
    ([0b11111100#8, 0x34#8, 0x12#8], .cm 0x1234#16), ([0b11111101#8], .nopFD), ([0b11111110#8, 0x9A#8], .cpi 0x9A#8),
    ([0b11111111#8], .rst7)] = true := by decide

/-- A missing operand byte is rejected by name. -/
theorem test_decode_missing_operand : decode [0xC3#8, 0x34#8] = .error (.missingOperand 0xC3#8) := by decide

/-- No byte is rejected by name too. -/
theorem test_decode_no_opcode : decode [] = .error .noOpcode := by decide

/-- The host's numbering: byte 0 is the least significant. -/
theorem test_decode_table_word : decodeTableWord 24 0x1234C3 = some (.jmp 0x1234#16) := by decide

/-! ## 95_test_vectors.md V1: eight-bit operations on A and B -/

/-- Rows of V1: opcode, A, B, carry before; A and the flags `Z S P CY AC` after. -/
def aluRows (rows : List (Byte × Byte × Byte × Bool × Byte × Flags)) : Bool :=
  rows.all fun (op, a, b, cy, a', f) =>
    let s := start 0x0100 0x2400 [(0x0100#16, op)]
    let s := { s with regs := { s.regs with a := a, b := b }, flags := { s.flags with cy := cy } }
    after s fun t => decide (t.regs = { s.regs with a := a' } ∧ t.flags = f ∧ t.pc = 0x0101#16)

theorem test_add_rows : aluRows [
    (0x80#8, 0x00#8, 0x00#8, false, 0x00#8, ⟨true, false, true, false, false⟩),
    (0x80#8, 0x6C#8, 0x2E#8, false, 0x9A#8, ⟨false, true, true, false, true⟩),
    (0x80#8, 0xFF#8, 0x01#8, false, 0x00#8, ⟨true, false, true, true, true⟩),
    (0x80#8, 0x0F#8, 0x01#8, false, 0x10#8, ⟨false, false, false, false, true⟩),
    (0x80#8, 0x80#8, 0x80#8, false, 0x00#8, ⟨true, false, true, true, false⟩),
    (0x80#8, 0x7F#8, 0x01#8, true, 0x80#8, ⟨false, true, false, false, true⟩),
    (0x80#8, 0xFF#8, 0xFF#8, false, 0xFE#8, ⟨false, true, false, true, true⟩)] = true := by decide

theorem test_adc_rows : aluRows [
    (0x88#8, 0x3D#8, 0x42#8, false, 0x7F#8, ⟨false, false, false, false, false⟩),
    (0x88#8, 0x3D#8, 0x42#8, true, 0x80#8, ⟨false, true, false, false, true⟩),
    (0x88#8, 0xFF#8, 0x00#8, true, 0x00#8, ⟨true, false, true, true, true⟩),
    (0x88#8, 0xFF#8, 0xFF#8, true, 0xFF#8, ⟨false, true, true, true, true⟩),
    (0x88#8, 0x0F#8, 0x00#8, true, 0x10#8, ⟨false, false, false, false, true⟩),
    (0x88#8, 0x00#8, 0x00#8, false, 0x00#8, ⟨true, false, true, false, false⟩)] = true := by decide

theorem test_sub_rows : aluRows [
    (0x90#8, 0x3E#8, 0x3E#8, false, 0x00#8, ⟨true, false, true, false, true⟩),
    (0x90#8, 0x10#8, 0x01#8, false, 0x0F#8, ⟨false, false, true, false, false⟩),
    (0x90#8, 0x00#8, 0x01#8, false, 0xFF#8, ⟨false, true, true, true, false⟩),
    (0x90#8, 0x00#8, 0x00#8, false, 0x00#8, ⟨true, false, true, false, true⟩),
    (0x90#8, 0x80#8, 0x01#8, false, 0x7F#8, ⟨false, false, false, false, false⟩),
    (0x90#8, 0x05#8, 0x0A#8, false, 0xFB#8, ⟨false, true, false, true, false⟩),
    (0x90#8, 0xFF#8, 0xFF#8, true, 0x00#8, ⟨true, false, true, false, true⟩),
    (0x90#8, 0x00#8, 0xFF#8, false, 0x01#8, ⟨false, false, false, true, false⟩)] = true := by decide

theorem test_sbb_rows : aluRows [
    (0x98#8, 0x04#8, 0x02#8, true, 0x01#8, ⟨false, false, false, false, true⟩),
    (0x98#8, 0x04#8, 0x02#8, false, 0x02#8, ⟨false, false, false, false, true⟩),
    (0x98#8, 0x00#8, 0x00#8, true, 0xFF#8, ⟨false, true, true, true, false⟩),
    (0x98#8, 0x00#8, 0xFF#8, true, 0x00#8, ⟨true, false, true, true, false⟩),
    (0x98#8, 0x10#8, 0x0F#8, true, 0x00#8, ⟨true, false, true, false, false⟩),
    (0x98#8, 0x80#8, 0x7F#8, true, 0x00#8, ⟨true, false, true, false, false⟩)] = true := by decide

theorem test_ana_rows : aluRows [
    (0xA0#8, 0xFC#8, 0x0F#8, true, 0x0C#8, ⟨false, false, true, false, false⟩),
    (0xA0#8, 0xFF#8, 0x00#8, true, 0x00#8, ⟨true, false, true, false, false⟩),
    (0xA0#8, 0xAA#8, 0x55#8, false, 0x00#8, ⟨true, false, true, false, false⟩),
    (0xA0#8, 0xFF#8, 0xFF#8, false, 0xFF#8, ⟨false, true, true, false, false⟩),
    (0xA0#8, 0x08#8, 0x08#8, false, 0x08#8, ⟨false, false, false, false, false⟩)] = true := by decide

theorem test_xra_rows : aluRows [
    (0xA8#8, 0x5C#8, 0x78#8, true, 0x24#8, ⟨false, false, true, false, false⟩),
    (0xA8#8, 0xFF#8, 0xFF#8, true, 0x00#8, ⟨true, false, true, false, false⟩),
    (0xA8#8, 0x00#8, 0x80#8, false, 0x80#8, ⟨false, true, false, false, false⟩),
    (0xA8#8, 0x0F#8, 0xF0#8, false, 0xFF#8, ⟨false, true, true, false, false⟩)] = true := by decide

theorem test_ora_rows : aluRows [
    (0xB0#8, 0x33#8, 0x0F#8, true, 0x3F#8, ⟨false, false, true, false, false⟩),
    (0xB0#8, 0x00#8, 0x00#8, true, 0x00#8, ⟨true, false, true, false, false⟩),
    (0xB0#8, 0x80#8, 0x01#8, false, 0x81#8, ⟨false, true, true, false, false⟩),
    (0xB0#8, 0xF0#8, 0x0F#8, false, 0xFF#8, ⟨false, true, true, false, false⟩)] = true := by decide

theorem test_cmp_rows : aluRows [
    (0xB8#8, 0x0A#8, 0x05#8, false, 0x0A#8, ⟨false, false, true, false, true⟩),
    (0xB8#8, 0x02#8, 0x05#8, false, 0x02#8, ⟨false, true, false, true, false⟩),
    (0xB8#8, 0x05#8, 0x05#8, false, 0x05#8, ⟨true, false, true, false, true⟩),
    (0xB8#8, 0xE5#8, 0x05#8, false, 0xE5#8, ⟨false, true, false, false, true⟩),
    (0xB8#8, 0x00#8, 0x80#8, false, 0x00#8, ⟨false, true, false, true, true⟩),
    (0xB8#8, 0x80#8, 0x00#8, true, 0x80#8, ⟨false, true, false, false, true⟩)] = true := by decide

/-- V1, the memory form: 0x6C + 0x2E through `HL = 0x3000`. -/
theorem test_add_m : after
    { start 0x0100 0x2400 [(0x0100#16, 0x86#8), (0x3000#16, 0x2E#8)] with regs := ⟨0x6C, 0, 0, 0, 0, 0x30, 0x00⟩ }
    (fun t => decide (t.regs.a = 0x9A#8 ∧ t.flags = ⟨false, true, true, false, true⟩ ∧ t.pc = 0x0101#16)) = true := by decide

/-- V1, the immediate form. -/
theorem test_adi : after { start 0x0100 0x2400 [(0x0100#16, 0xC6#8), (0x0101#16, 0x2E#8)] with regs := ⟨0x6C, 0, 0, 0, 0, 0, 0⟩ }
    (fun t => decide (t.regs.a = 0x9A#8 ∧ t.flags = ⟨false, true, true, false, true⟩ ∧ t.pc = 0x0102#16)) = true := by decide

/-- V1, same-register forms: `ADD A` with 0x81, and `SUB A`. -/
theorem test_add_a : after { start 0x0100 0x2400 [(0x0100#16, 0x87#8)] with regs := ⟨0x81, 0, 0, 0, 0, 0, 0⟩ }
    (fun t => decide (t.regs.a = 0x02#8 ∧ t.flags = ⟨false, false, false, true, false⟩)) = true := by decide

theorem test_sub_a : after { start 0x0100 0x2400 [(0x0100#16, 0x97#8)] with regs := ⟨0x81, 0, 0, 0, 0, 0, 0⟩ }
    (fun t => decide (t.regs.a = 0x00#8 ∧ t.flags = ⟨true, false, true, false, true⟩)) = true := by decide

/-- The source's second scenario (S2), its step 2: SUI 01 on 0x10 at 0x0002. -/
theorem test_sui_scenario : after { start 0x0002 0x2400 [(0x0002#16, 0xD6#8), (0x0003#16, 0x01#8)] with regs := ⟨0x10, 0, 0, 0, 0, 0, 0⟩ }
    (fun t => decide (t.regs.a = 0x0F#8 ∧ t.flags = ⟨false, false, true, false, false⟩ ∧ t.pc = 0x0004#16)) = true := by decide

/-- P5: CPI 64 on 0x2A. -/
theorem test_cpi : after { start 0x0002 0x2400 [(0x0002#16, 0xFE#8), (0x0003#16, 0x64#8)] with regs := ⟨0x2A, 0, 0, 0, 0, 0, 0⟩ }
    (fun t => decide (t.regs.a = 0x2A#8 ∧ t.flags = ⟨false, true, true, true, true⟩)) = true := by decide

/-! ## V2: INR, DCR, DAA -/

/-- Rows of V2: opcode, A, B, carry before; A, B and the flags after. -/
def countRows (rows : List (Byte × Byte × Byte × Bool × Byte × Byte × Flags)) : Bool :=
  rows.all fun (op, a, b, cy, a', b', f) =>
    let s := start 0x0100 0x2400 [(0x0100#16, op)]
    let s := { s with regs := { s.regs with a := a, b := b }, flags := { s.flags with cy := cy } }
    after s fun t => decide (t.regs = { s.regs with a := a', b := b' } ∧ t.flags = f ∧ t.pc = 0x0101#16)

theorem test_inr_rows : countRows [
    (0x3C#8, 0x00#8, 0#8, false, 0x01#8, 0#8, ⟨false, false, false, false, false⟩),
    (0x3C#8, 0x0F#8, 0#8, false, 0x10#8, 0#8, ⟨false, false, false, false, true⟩),
    (0x3C#8, 0x7F#8, 0#8, false, 0x80#8, 0#8, ⟨false, true, false, false, true⟩),
    (0x3C#8, 0xFF#8, 0#8, true, 0x00#8, 0#8, ⟨true, false, true, true, true⟩),
    (0x3C#8, 0x99#8, 0#8, false, 0x9A#8, 0#8, ⟨false, true, true, false, false⟩)] = true := by decide

theorem test_dcr_rows : countRows [
    (0x05#8, 0#8, 0x00#8, true, 0#8, 0xFF#8, ⟨false, true, true, true, false⟩),
    (0x05#8, 0#8, 0x01#8, false, 0#8, 0x00#8, ⟨true, false, true, false, true⟩),
    (0x05#8, 0#8, 0x10#8, false, 0#8, 0x0F#8, ⟨false, false, true, false, false⟩),
    (0x05#8, 0#8, 0x80#8, false, 0#8, 0x7F#8, ⟨false, false, false, false, false⟩),
    (0x05#8, 0#8, 0xFF#8, false, 0#8, 0xFE#8, ⟨false, true, false, false, true⟩)] = true := by decide

theorem test_inr_m : after
    { start 0x0100 0x2400 [(0x0100#16, 0x34#8), (0x3000#16, 0xFF#8)] with regs := ⟨0, 0, 0, 0, 0, 0x30, 0x00⟩ }
    (fun t => decide (t.readByte 0x3000#16 = 0x00#8 ∧ t.flags = ⟨true, false, true, false, true⟩)) = true := by decide

theorem test_dcr_m : after { start 0x0100 0x2400 [(0x0100#16, 0x35#8)] with regs := ⟨0, 0, 0, 0, 0, 0x30, 0x00⟩ }
    (fun t => decide (t.readByte 0x3000#16 = 0xFF#8 ∧ t.flags = ⟨false, true, true, false, false⟩)) = true := by decide

theorem test_daa : after
    { start 0x0100 0x2400 [(0x0100#16, 0x27#8)] with regs := ⟨0x9B, 0, 0, 0, 0, 0, 0⟩, flags := ⟨false, true, false, true, true⟩ }
    (fun t => decide (t.regs.a = 0x9B#8 ∧ t.flags = ⟨false, true, false, true, true⟩ ∧ t.pc = 0x0101#16)) = true := by decide

/-! ## V3: pairs, rotates, carry. The flags before each row are all true but `CY`, as V3 says -/

/-- Rows of V3: opcode, A, BC, DE, HL, `sp`, `CY` before and after. -/
def pairRows (rows : List (Byte × (Byte × Word × Word × Word × Word × Bool) × (Byte × Word × Word × Word × Word × Bool))) : Bool :=
  rows.all fun (op, (a, bc, de, hl, sp, cy), (a', bc', de', hl', sp', cy')) =>
    let s := start 0x0100 sp [(0x0100#16, op)]
    let s := { s with
      regs := (((({ s.regs with a := a } : Regs).setBc bc).setDe de).setHl hl)
      flags := { allFlags true with cy := cy } }
    after s fun t => decide (t.regs.a = a' ∧ t.regs.bc = bc' ∧ t.regs.de = de' ∧ t.regs.hl = hl' ∧ t.sp = sp' ∧
      t.flags = { allFlags true with cy := cy' } ∧ t.pc = 0x0101#16)

theorem test_inx_dcx_rows : pairRows [
    (0x03#8, (0, 0x00FF, 0, 0, 0, false), (0, 0x0100, 0, 0, 0, false)),
    (0x23#8, (0, 0, 0, 0xFFFF, 0, true), (0, 0, 0, 0x0000, 0, true)),
    (0x33#8, (0, 0, 0, 0, 0xFFFF, false), (0, 0, 0, 0, 0x0000, false)),
    (0x1B#8, (0, 0, 0x0000, 0, 0, false), (0, 0, 0xFFFF, 0, 0, false)),
    (0x2B#8, (0, 0, 0, 0x9800, 0, false), (0, 0, 0, 0x97FF, 0, false)),
    (0x3B#8, (0, 0, 0, 0, 0x0000, false), (0, 0, 0, 0, 0xFFFF, false))] = true := by decide

theorem test_dad_rows : pairRows [
    (0x09#8, (0, 0x339F, 0, 0xA17B, 0, false), (0, 0x339F, 0, 0xD51A, 0, false)),
    (0x19#8, (0, 0, 0xFFFF, 0x0001, 0, false), (0, 0, 0xFFFF, 0x0000, 0, true)),
    (0x29#8, (0, 0, 0, 0x8001, 0, false), (0, 0, 0, 0x0002, 0, true)),
    (0x39#8, (0, 0, 0, 0x0000, 0x2400, true), (0, 0, 0, 0x2400, 0x2400, false))] = true := by decide

theorem test_rotate_rows : pairRows [
    (0x07#8, (0xF2, 0, 0, 0, 0, false), (0xE5, 0, 0, 0, 0, true)),
    (0x07#8, (0x00, 0, 0, 0, 0, true), (0x00, 0, 0, 0, 0, false)),
    (0x0F#8, (0xF2, 0, 0, 0, 0, true), (0x79, 0, 0, 0, 0, false)),
    (0x0F#8, (0x01, 0, 0, 0, 0, false), (0x80, 0, 0, 0, 0, true)),
    (0x17#8, (0xB5, 0, 0, 0, 0, false), (0x6A, 0, 0, 0, 0, true)),
    (0x17#8, (0x00, 0, 0, 0, 0, true), (0x01, 0, 0, 0, 0, false)),
    (0x1F#8, (0x6A, 0, 0, 0, 0, true), (0xB5, 0, 0, 0, 0, false)),
    (0x1F#8, (0x01, 0, 0, 0, 0, false), (0x00, 0, 0, 0, 0, true))] = true := by decide

theorem test_cma_cmc_stc_rows : pairRows [
    (0x2F#8, (0x51, 0, 0, 0, 0, false), (0xAE, 0, 0, 0, 0, false)),
    (0x3F#8, (0, 0, 0, 0, 0, false), (0, 0, 0, 0, 0, true)),
    (0x3F#8, (0, 0, 0, 0, 0, true), (0, 0, 0, 0, 0, false)),
    (0x37#8, (0, 0, 0, 0, 0, false), (0, 0, 0, 0, 0, true)),
    (0x37#8, (0, 0, 0, 0, 0, true), (0, 0, 0, 0, 0, true))] = true := by decide

/-! ## V4: data movement, each instruction at 0x0100 -/

theorem test_mov_b_a : after { start 0x0100 0x2400 [(0x0100#16, 0x47#8)] with regs := ⟨0x5A, 0, 0, 0, 0, 0, 0⟩ }
    (fun t => decide (t.regs = ⟨0x5A, 0x5A, 0, 0, 0, 0, 0⟩ ∧ t.pc = 0x0101#16)) = true := by decide

theorem test_mov_m_h : after { start 0x0100 0x2400 [(0x0100#16, 0x74#8)] with regs := ⟨0, 0, 0, 0, 0, 0x30, 0x40⟩ }
    (fun t => decide (t.readByte 0x3040#16 = 0x30#8)) = true := by decide

theorem test_mov_l_m : after
    { start 0x0100 0x2400 [(0x0100#16, 0x6E#8), (0x3040#16, 0x99#8)] with regs := ⟨0, 0, 0, 0, 0, 0x30, 0x40⟩ }
    (fun t => decide (t.regs.hl = 0x3099#16)) = true := by decide

theorem test_mvi_m : after
    { start 0x0100 0x2400 [(0x0100#16, 0x36#8), (0x0101#16, 0xFF#8)] with regs := ⟨0, 0, 0, 0, 0, 0x3C, 0xF4⟩ }
    (fun t => decide (t.readByte 0x3CF4#16 = 0xFF#8 ∧ t.pc = 0x0102#16)) = true := by decide

theorem test_lxi_h : after (start 0x0100 0x2400 [(0x0100#16, 0x21#8), (0x0101#16, 0x03#8), (0x0102#16, 0x01#8)])
    (fun t => decide (t.regs.h = 0x01#8 ∧ t.regs.l = 0x03#8 ∧ t.pc = 0x0103#16)) = true := by decide

theorem test_lxi_sp : after (start 0x0100 0x2400 [(0x0100#16, 0x31#8), (0x0101#16, 0xBC#8), (0x0102#16, 0x3A#8)])
    (fun t => decide (t.sp = 0x3ABC#16)) = true := by decide

theorem test_sta : after
    { start 0x0100 0x2400 [(0x0100#16, 0x32#8), (0x0101#16, 0xB3#8), (0x0102#16, 0x05#8)] with regs := ⟨0x7E, 0, 0, 0, 0, 0, 0⟩ }
    (fun t => decide (t.readByte 0x05B3#16 = 0x7E#8)) = true := by decide

theorem test_lda_own_byte : after (start 0x0100 0x2400 [(0x0100#16, 0x3A#8), (0x0101#16, 0x01#8), (0x0102#16, 0x01#8)])
    (fun t => decide (t.regs.a = 0x01#8)) = true := by decide

theorem test_stax_d : after { start 0x0100 0x2400 [(0x0100#16, 0x12#8)] with regs := ⟨0x22, 0, 0, 0xFF, 0xFF, 0, 0⟩ }
    (fun t => decide (t.readByte 0xFFFF#16 = 0x22#8)) = true := by decide

theorem test_ldax_b : after
    { start 0x0100 0x2400 [(0x0100#16, 0x0A#8), (0x938B#16, 0x6D#8)] with regs := ⟨0, 0x93, 0x8B, 0, 0, 0, 0⟩ }
    (fun t => decide (t.regs.a = 0x6D#8)) = true := by decide

theorem test_shld_wraps : after
    { start 0x0100 0x2400 [(0x0100#16, 0x22#8), (0x0101#16, 0xFF#8), (0x0102#16, 0xFF#8)] with regs := ⟨0, 0, 0, 0, 0, 0xAE, 0x29⟩ }
    (fun t => decide (t.readByte 0xFFFF#16 = 0x29#8 ∧ t.readByte 0x0000#16 = 0xAE#8)) = true := by decide

theorem test_lhld_wraps : after
    (start 0x0100 0x2400 [(0x0100#16, 0x2A#8), (0x0101#16, 0xFF#8), (0x0102#16, 0xFF#8), (0xFFFF#16, 0x12#8), (0x0000#16, 0x34#8)])
    (fun t => decide (t.regs.l = 0x12#8 ∧ t.regs.h = 0x34#8)) = true := by decide

theorem test_xchg : after { start 0x0100 0x2400 [(0x0100#16, 0xEB#8)] with regs := ⟨0, 0, 0, 0x33, 0x55, 0x00, 0xFF⟩ }
    (fun t => decide (t.regs = ⟨0, 0, 0, 0x00, 0xFF, 0x33, 0x55⟩)) = true := by decide

/-! ## V5: control flow, each instruction at 0x0100 with `sp` = 0x2400 and the target 0x1234 -/

/-- For a conditional opcode: with one flag value the step goes to one `pc` and `sp`, with all flags inverted to another. -/
def condRows (rows : List (Byte × Bool × (Word × Word) × (Word × Word))) : Bool :=
  rows.all fun (op, b, yes, no) =>
    let s := start 0x0100 0x2400 [(0x0100#16, op), (0x0101#16, 0x34#8), (0x0102#16, 0x12#8), (0x2400#16, 0x03#8), (0x2401#16, 0x01#8)]
    after { s with flags := allFlags b } (fun t => decide ((t.pc, t.sp) = yes ∧ t.flags = allFlags b)) &&
      after { s with flags := allFlags (!b) } (fun t => decide ((t.pc, t.sp) = no ∧ t.flags = allFlags (!b)))

theorem test_conditional_jumps : condRows [
    (0xC2#8, false, (0x1234, 0x2400), (0x0103, 0x2400)), (0xCA#8, true, (0x1234, 0x2400), (0x0103, 0x2400)),
    (0xD2#8, false, (0x1234, 0x2400), (0x0103, 0x2400)), (0xDA#8, true, (0x1234, 0x2400), (0x0103, 0x2400)),
    (0xE2#8, false, (0x1234, 0x2400), (0x0103, 0x2400)), (0xEA#8, true, (0x1234, 0x2400), (0x0103, 0x2400)),
    (0xF2#8, false, (0x1234, 0x2400), (0x0103, 0x2400)), (0xFA#8, true, (0x1234, 0x2400), (0x0103, 0x2400))] = true := by decide

theorem test_conditional_calls : condRows [
    (0xC4#8, false, (0x1234, 0x23FE), (0x0103, 0x2400)), (0xCC#8, true, (0x1234, 0x23FE), (0x0103, 0x2400)),
    (0xD4#8, false, (0x1234, 0x23FE), (0x0103, 0x2400)), (0xDC#8, true, (0x1234, 0x23FE), (0x0103, 0x2400)),
    (0xE4#8, false, (0x1234, 0x23FE), (0x0103, 0x2400)), (0xEC#8, true, (0x1234, 0x23FE), (0x0103, 0x2400)),
    (0xF4#8, false, (0x1234, 0x23FE), (0x0103, 0x2400)), (0xFC#8, true, (0x1234, 0x23FE), (0x0103, 0x2400))] = true := by decide

theorem test_conditional_returns : condRows [
    (0xC0#8, false, (0x0103, 0x2402), (0x0101, 0x2400)), (0xC8#8, true, (0x0103, 0x2402), (0x0101, 0x2400)),
    (0xD0#8, false, (0x0103, 0x2402), (0x0101, 0x2400)), (0xD8#8, true, (0x0103, 0x2402), (0x0101, 0x2400)),
    (0xE0#8, false, (0x0103, 0x2402), (0x0101, 0x2400)), (0xE8#8, true, (0x0103, 0x2402), (0x0101, 0x2400)),
    (0xF0#8, false, (0x0103, 0x2402), (0x0101, 0x2400)), (0xF8#8, true, (0x0103, 0x2402), (0x0101, 0x2400))] = true := by decide

/-- The six single-flag assignments that tell the conditions apart: with only one flag true, only the right ones hold. -/
theorem test_conditions_read_their_own_flag :
    ((⟨true, false, false, false, false⟩ : Flags).cond .z && (⟨false, false, false, true, false⟩ : Flags).cond .c &&
      (⟨false, false, true, false, false⟩ : Flags).cond .pe && (⟨false, true, false, false, false⟩ : Flags).cond .m &&
      !(⟨false, true, true, true, true⟩ : Flags).cond .z && !(⟨true, true, true, false, true⟩ : Flags).cond .c &&
      !(⟨true, true, false, true, true⟩ : Flags).cond .pe && !(⟨true, false, true, true, true⟩ : Flags).cond .m) = true := by decide

theorem test_call : after (start 0x0100 0x2400 [(0x0100#16, 0xCD#8), (0x0101#16, 0x00#8), (0x0102#16, 0x30#8)])
    (fun t => decide (t.pc = 0x3000#16 ∧ t.sp = 0x23FE#16 ∧ t.readByte 0x23FE#16 = 0x03#8 ∧ t.readByte 0x23FF#16 = 0x01#8)) = true := by
  decide

theorem test_call_wraps : after (start 0x0100 0x0001 [(0x0100#16, 0xCD#8), (0x0101#16, 0x00#8), (0x0102#16, 0x30#8)])
    (fun t => decide (t.sp = 0xFFFF#16 ∧ t.readByte 0x0000#16 = 0x01#8 ∧ t.readByte 0xFFFF#16 = 0x03#8)) = true := by decide

theorem test_ret_wraps : after (start 0x0100 0xFFFF [(0x0100#16, 0xC9#8), (0xFFFF#16, 0x78#8), (0x0000#16, 0x56#8)])
    (fun t => decide (t.pc = 0x5678#16 ∧ t.sp = 0x0001#16)) = true := by decide

/-- RST n for every n: opcode bytes C7, CF, ... FF. -/
theorem test_rst_rows : ([(0xC7#8, 0x0000#16), (0xCF#8, 0x0008#16), (0xD7#8, 0x0010#16), (0xDF#8, 0x0018#16), (0xE7#8, 0x0020#16),
    (0xEF#8, 0x0028#16), (0xF7#8, 0x0030#16), (0xFF#8, 0x0038#16)] : List (Byte × Word)).all (fun (op, target) =>
      after (start 0x0100 0x2400 [(0x0100#16, op)]) fun t => decide (t.pc = target ∧ t.sp = 0x23FE#16 ∧
        t.readByte 0x23FE#16 = 0x01#8 ∧ t.readByte 0x23FF#16 = 0x01#8)) = true := by decide

theorem test_rst_return_address_wraps : after (start 0xFFFF 0x2400 [(0xFFFF#16, 0xFF#8), (0x23FF#16, 0x11#8)])
    (fun t => decide (t.pc = 0x0038#16 ∧ t.readByte 0x23FE#16 = 0x00#8 ∧ t.readByte 0x23FF#16 = 0x00#8)) = true := by decide

theorem test_pchl : after { start 0x0100 0x2400 [(0x0100#16, 0xE9#8)] with regs := ⟨0, 0, 0, 0, 0, 0x41, 0x3E⟩ }
    (fun t => decide (t.pc = 0x413E#16 ∧ t.sp = 0x2400#16)) = true := by decide

theorem test_sphl : after { start 0x0100 0x2400 [(0x0100#16, 0xF9#8)] with regs := ⟨0, 0, 0, 0, 0, 0x50, 0x6C⟩ }
    (fun t => decide (t.pc = 0x0101#16 ∧ t.sp = 0x506C#16)) = true := by decide

theorem test_hlt_at_top : after (start 0xFFFF 0x2400 [(0xFFFF#16, 0x76#8)])
    (fun t => decide (t.pc = 0x0000#16 ∧ t.run = false)) = true := by decide

/-- V9: operand fetch at the top of memory. -/
theorem test_fetch_wraps : after (start 0xFFFF 0x2400 [(0xFFFF#16, 0xC3#8), (0x0000#16, 0x34#8), (0x0001#16, 0x12#8)])
    (fun t => decide (t.pc = 0x1234#16)) = true := by decide

/-! ## V6: the stack -/

theorem test_push_d_wraps : after { start 0x0100 0x0000 [(0x0100#16, 0xD5#8)] with regs := ⟨0, 0, 0, 0x01, 0x02, 0, 0⟩ }
    (fun t => decide (t.readByte 0xFFFF#16 = 0x01#8 ∧ t.readByte 0xFFFE#16 = 0x02#8 ∧ t.sp = 0xFFFE#16)) = true := by decide

theorem test_pop_b_wraps : after (start 0x0100 0xFFFF [(0x0100#16, 0xC1#8), (0xFFFF#16, 0x3D#8), (0x0000#16, 0x93#8)])
    (fun t => decide (t.regs.c = 0x3D#8 ∧ t.regs.b = 0x93#8 ∧ t.sp = 0x0001#16)) = true := by decide

/-- The rows of V6 for PUSH PSW: the flags `Z S P CY AC`, the flag byte. -/
theorem test_push_psw_rows : ([(⟨true, false, true, true, false⟩, 0x47#8), (allFlags false, 0x02#8), (allFlags true, 0xD7#8),
    (⟨false, true, false, false, false⟩, 0x82#8), (⟨true, false, false, false, false⟩, 0x42#8),
    (⟨false, false, false, false, true⟩, 0x12#8), (⟨false, false, true, false, false⟩, 0x06#8),
    (⟨false, false, false, true, false⟩, 0x03#8)] : List (Flags × Byte)).all (fun (f, b) =>
      after { start 0x0100 0x2400 [(0x0100#16, 0xF5#8)] with regs := ⟨0xAA, 0, 0, 0, 0, 0, 0⟩, flags := f } fun t =>
        decide (t.readByte 0x23FF#16 = 0xAA#8 ∧ t.readByte 0x23FE#16 = b ∧ t.sp = 0x23FE#16)) = true := by decide

/-- The rows of V6 for POP PSW: the flag byte, the flags. -/
theorem test_pop_psw_rows : ([(0xC3#8, ⟨true, true, false, true, false⟩), (0xFF#8, allFlags true), (0x28#8, allFlags false),
    (0x00#8, allFlags false)] : List (Byte × Flags)).all (fun (b, f) =>
      after (start 0x0100 0x2C00 [(0x0100#16, 0xF1#8), (0x2C00#16, b), (0x2C01#16, 0xFF#8)]) fun t =>
        decide (t.regs.a = 0xFF#8 ∧ t.flags = f ∧ t.sp = 0x2C02#16)) = true := by decide

theorem test_xthl : after
    { start 0x0100 0x10AD [(0x0100#16, 0xE3#8), (0x10AD#16, 0xF0#8), (0x10AE#16, 0x0D#8)] with regs := ⟨0, 0, 0, 0, 0, 0x0B, 0x3C⟩ }
    (fun t => decide (t.regs.h = 0x0D#8 ∧ t.regs.l = 0xF0#8 ∧ t.readByte 0x10AD#16 = 0x3C#8 ∧ t.readByte 0x10AE#16 = 0x0B#8 ∧
      t.sp = 0x10AD#16)) = true := by decide

/-! ## V7: no-operations and ports, with A = 0x77 and all flags true; V8: the exception -/

/-- The state of V7. -/
def v7 (op operand : Byte) : State :=
  { start 0x0100 0x2400 [(0x0100#16, op), (0x0101#16, operand)] with regs := ⟨0x77, 0, 0, 0, 0, 0, 0⟩, flags := allFlags true }

theorem test_no_operations : ([0x00#8, 0x08#8, 0x10#8, 0x18#8, 0x20#8, 0x28#8, 0x30#8, 0x38#8, 0xCB#8, 0xD9#8, 0xDD#8, 0xED#8, 0xFD#8, 0xFB#8,
    0xF3#8] : List Byte).all (fun op => after (v7 op 0x34#8) fun t => decide (t = { v7 op 0x34#8 with pc := 0x0101#16 })) = true := by
  decide

/-- IN: nothing is said of the value read. -/
theorem test_in : after (v7 0xDB#8 0x01#8) (fun t => decide (t.flags = allFlags true ∧ t.pc = 0x0102#16 ∧ t.ioCount = 1)) = true := by
  decide

theorem test_out : after (v7 0xD3#8 0x02#8) (fun t => decide (t.regs = (v7 0 0).regs ∧ t.flags = allFlags true ∧
    t.pc = 0x0102#16 ∧ t.outEvents = [⟨0x02#8, 0x77#8⟩])) = true := by decide

/-- The 32 Tier G bytes as V8 lists them. -/
def tierGBytes : List Byte := [0x00#8, 0x07#8, 0x09#8, 0x0F#8, 0x17#8, 0x19#8, 0x1F#8, 0x29#8, 0x2F#8, 0x37#8, 0x39#8, 0x3F#8, 0xC7#8, 0xCF#8, 0xD3#8,
  0xD7#8, 0xDB#8, 0xDF#8, 0xE3#8, 0xE7#8, 0xEB#8, 0xEF#8, 0xF0#8, 0xF2#8, 0xF3#8, 0xF4#8, 0xF7#8, 0xF8#8, 0xFA#8, 0xFB#8, 0xFC#8, 0xFF#8]

theorem test_tiers : ∀ op : Byte, tierOf op = .g ↔ op ∈ tierGBytes := by decide

/-- In mode `fault`, RST 0 at 0x1234: the record is set, nothing else changes. -/
theorem test_raise : stepIn .fault (start 0x1234 0x2400 [(0x1234#16, 0xC7#8)]) =
    .next { start 0x1234 0x2400 [(0x1234#16, 0xC7#8)] with fault := some ⟨0xC7#8, 0x1234#16⟩ } := rfl

/-! ## V10: reset, the run flag -/

theorem test_reset_does_not_step : step State.reset = .next State.reset := rfl

theorem test_host_word_runs_first : after (State.reset.withFetchWord 16 0x0506) (fun t => decide (t.regs.b = 0x05#8 ∧ t.pc = 0x0002#16)) = true := by
  decide

/-! ## The view and the run: scenario S1 and V8 -/

theorem test_view_of_faulted_is_record :
    { start 0x1234 0x2400 [] with fault := some ⟨0x00#8, 0x1234#16⟩ }.view = .faulted ⟨0x00#8, 0x1234#16⟩ := rfl

/-- The source's first scenario, `06 05 3C 76`: `B=5`, `A=1`, run flag false, `pc` just past the HLT (S1), in mode `fault` too. -/
theorem test_scenario_one_ends : (runOf .fault 0x2400#16 [0x06#8, 0x05#8, 0x3C#8, 0x76#8] 3 = .ok (.ended
    { State.reset with
      sp := 0x2400#16, pc := 0x0004#16, mem := [(0, 0x06#8), (1, 0x05#8), (2, 0x3C#8), (3, 0x76#8)],
      regs := { State.reset.regs with a := 0x01#8, b := 0x05#8 } })) := rfl

/-- Mode `fault` with an empty image (V8): the first step raises, which is no end. -/
theorem test_empty_image_faults : runOf .fault 0x2400#16 [] 1 = .ok (.faulted ⟨0x00#8, 0x0000#16⟩) := rfl

/-- A paused machine takes no step and has not ended (R300). -/
theorem test_paused_run_has_not_ended :
    { start 0x0100 0x2400 [] with run := false }.runFor .execute 2 = .unfinished { start 0x0100 0x2400 [] with run := false } := rfl

/-! ## Witnesses of the statements' hypotheses -/

/-- MVI B,05 at the last address, its operand at address 0. -/
def demo : State := start 0xFFFF 0x0001 [(0xFFFF#16, 0x06#8), (0x0000#16, 0x05#8)]

/-- `demo` after its step. -/
def demoNext : State := { demo with regs := { demo.regs with b := 0x05#8 }, pc := 0x0001#16 }

/-- NOP, a Tier G byte, at 0x0100. -/
def nopDemo : State := start 0x0100 0x2400 []

/-- `nopDemo` after the raise in mode `fault`. -/
def raisedDemo : State := { nopDemo with fault := some ⟨0x00#8, 0x0100#16⟩ }

/-- The unassigned byte 0x08 at 0x0100. -/
def slotDemo : State := start 0x0100 0x2400 [(0x0100#16, 0x08#8)]

/-- The launch of the image `76`. -/
def launched : State := { State.reset with sp := 0x2400#16, mem := [(0, 0x76#8)], run := true }

/-- `launched` after its HLT. -/
def ended : State := { launched with run := false, pc := 0x0001#16 }

/-- HLT at 0x0100. -/
def hltDemo : State := start 0x0100 0x2400 [(0x0100#16, 0x76#8)]

theorem witness_encodeOfDecodeIsBytes : decode [0x06#8, 0x05#8, 0x3C#8] = .ok (.mviB 0x05#8, [0x3C#8]) := by decide

/-- One byte of each length, with exactly its operand bytes. -/
theorem witness_everyOpcodeDecodesAtItsLength : opLength 0x00#8 ≤ ([] : List Byte).length + 1 ∧
    opLength 0x06#8 ≤ [0x05#8].length + 1 ∧ opLength 0xC3#8 ≤ [0x34#8, 0x12#8].length + 1 := by decide

theorem witness_printedBytesDecode : Enabled slotDemo ∧ slotDemo.readByte slotDemo.pc = 0x08#8 := ⟨⟨rfl, rfl⟩, by decide⟩

theorem witness_stepRunsDecodedInstruction : Enabled demo ∧ decode demo.fetchBytes = .ok (.mviB 0x05#8, []) :=
  ⟨⟨rfl, rfl⟩, by decide⟩

/-- In mode `fault` with a byte that is not Tier G. -/
theorem witness_stepRunsEncodedInstruction : Enabled demo ∧
    (∀ (k : Nat) (h : k < (encode (.mviB 0x05#8)).length),
      demo.readByte (demo.pc + BitVec.ofNat 16 k) = (encode (.mviB 0x05#8))[k]) ∧
    (UnsourcedMode.fault = .fault → demo.readByte demo.pc ∉ tierGOpcodes) :=
  ⟨⟨rfl, rfl⟩, by decide, by decide⟩

/-- In mode `execute` with a Tier G byte. -/
theorem witness_stepRunsEncodedInstruction_tierG : Enabled nopDemo ∧
    (∀ (k : Nat) (h : k < (encode .nop).length), nopDemo.readByte (nopDemo.pc + BitVec.ofNat 16 k) = (encode .nop)[k]) ∧
    (UnsourcedMode.execute = .fault → nopDemo.readByte nopDemo.pc ∉ tierGOpcodes) :=
  ⟨⟨rfl, rfl⟩, by decide, by decide⟩

theorem witness_notRunningChangesNothing : Halted State.reset := ⟨rfl, rfl⟩

theorem witness_faultedMachineNeverSteps : raisedDemo.fault = some ⟨0x00#8, 0x0100#16⟩ := rfl

theorem witness_executeModeNeverStops : nopDemo.fault = none ∧ State.reset.fault = none := ⟨rfl, rfl⟩

theorem witness_faultModeRaisesOnTierG : Enabled nopDemo ∧ nopDemo.readByte nopDemo.pc ∈ tierGOpcodes :=
  ⟨⟨rfl, rfl⟩, by decide⟩

theorem witness_modesAgreeOffTierG : demo.readByte demo.pc ∉ tierGOpcodes := by decide

theorem witness_createdMachineHoldsImage : ([] : List Byte).length ≤ 65536 ∧ (List.replicate 65536 0x76#8).length ≤ 65536 := by
  rw [List.length_replicate]
  decide

theorem witness_longImageIsRefused : 65536 < (List.replicate 65537 0x76#8).length := by
  rw [List.length_replicate]
  decide

theorem witness_driverWritesOnlyRun : demo.fault = none ∧ Faulted raisedDemo := ⟨rfl, by simp [Faulted, raisedDemo]⟩

/-- The premise of ReadReturnsLastWrite, WordAccessIsLittleEndian, CountMemory, MoveMemory, MoveImmediate,
AccumulatorLoadAndStore, PairLoadAndStoreDirect, Calls, Restart, PushAndPopPair, StatusWordPushAndPop, ExchangeStackTop: a
canonical memory with bytes at the first and the last address; `sp` is 1, where a push wraps. -/
theorem witness_canonicalMemory : Memory.wf demo.mem = true ∧ demo.mem = [(0, 0x05#8), (65535, 0x06#8)] ∧ demo.sp = 0x0001#16 := by
  decide

theorem witness_stepKeepsSound : Sound demo ∧ stepIn .execute demo = .next demoNext :=
  ⟨rfl, rfl⟩

/-- The same where the step is a raise. -/
theorem witness_stepKeepsSound_raise : Sound nopDemo ∧ stepIn .fault nopDemo = .next raisedDemo :=
  ⟨rfl, rfl⟩

theorem witness_soundAtCreationAndUnderDriver : Sound nopDemo ∧
    State.create 0x2400#16 [] = .ok { State.reset with sp := 0x2400#16 } :=
  ⟨rfl, rfl⟩

/-- A step, a pause, and a step that is not enabled. -/
theorem witness_historiesKeepSound : Sound demo ∧
    demo.history .execute [.step, .drive .pause, .step] = .next { demoNext with run := false } :=
  ⟨rfl, rfl⟩

/-- A step at which the run flag falls, and one at which it stays. -/
theorem witness_runFlagFallsOnlyAtHlt :
    (stepIn .fault hltDemo = .next { hltDemo with run := false, pc := 0x0101#16 } ∧ hltDemo.fault = none ∧ hltDemo.run = true) ∧
      stepIn .execute demo = .next demoNext ∧ demoNext.fault = none ∧ demoNext.run = true := ⟨⟨rfl, rfl, rfl⟩, rfl, rfl, rfl⟩

/-- The three premises together (MVI), and each alone where the others fail (INR keeps only `CY`, DAD writes only `CY`). -/
theorem witness_undeclaredFlagsAreKept :
    (exec (.mviB 0x05#8) demo = .next demoNext ∧ writesZSP (Instr.mviB 0x05#8).form = false ∧
      writesCY (Instr.mviB 0x05#8).form = false ∧ writesAC (Instr.mviB 0x05#8).form = false) ∧
    (exec .inrA nopDemo = .next { nopDemo with regs := { nopDemo.regs with a := 0x01#8 }, pc := 0x0101#16 } ∧
      writesCY Instr.inrA.form = false) ∧
    (exec .dadB nopDemo = .next { nopDemo with pc := 0x0101#16 } ∧ writesZSP Instr.dadB.form = false ∧
      writesAC Instr.dadB.form = false) := ⟨⟨rfl, rfl, rfl, rfl⟩, ⟨rfl, rfl⟩, rfl, rfl, rfl⟩

theorem witness_stackPointerMovesOnlyAsDeclared :
    (exec (.mviB 0x05#8) demo = .next demoNext ∧ writesSP (Instr.mviB 0x05#8).form = false) ∧
    (exec .pushB nopDemo = .next { nopDemo with sp := 0x23FE#16, pc := 0x0101#16 } ∧ writesSP Instr.pushB.form = false) :=
  ⟨⟨rfl, rfl⟩, rfl, rfl⟩

theorem witness_onlyStoresWriteMemory : exec (.mviB 0x05#8) demo = .next demoNext ∧
    writesMemory (Instr.mviB 0x05#8).form = false := ⟨rfl, rfl⟩

theorem witness_onlyPortInstructionsTouchPorts : exec (.mviB 0x05#8) demo = .next demoNext ∧
    (∀ d8, Instr.mviB 0x05#8 ≠ .inPort d8) ∧ ∀ d8, Instr.mviB 0x05#8 ≠ .outPort d8 :=
  ⟨rfl, fun _ h => (nomatch h), fun _ h => (nomatch h)⟩

/-- Each of the three operations meets the premise. -/
theorem witness_logicOperations : ∀ op ∈ [AluOp.ana, .xra, .ora], op = .ana ∨ op = .xra ∨ op = .ora := by decide

/-- Jumps, Calls, Returns: each condition that the source names holds of some flags and fails of others. -/
theorem witness_sourcedConditions :
    (∀ k ∈ [Cond.nz, .nc, .po], k ∈ sourcedConditions ∧ ConditionHolds (allFlags false) k ∧ ¬ ConditionHolds (allFlags true) k) ∧
      ∀ k ∈ [Cond.z, .c, .pe], k ∈ sourcedConditions ∧ ConditionHolds (allFlags true) k ∧ ¬ ConditionHolds (allFlags false) k := by
  simp [sourcedConditions, ConditionHolds, allFlags]

/-- SignConditionedTransfers: both conditions hold of some flags and fail of others, with a canonical memory. -/
theorem witness_signConditions : Memory.wf demo.mem = true ∧
    (Cond.p ∈ signConditions ∧ ConditionHolds (allFlags false) .p ∧ ¬ ConditionHolds (allFlags true) .p) ∧
      Cond.m ∈ signConditions ∧ ConditionHolds (allFlags true) .m ∧ ¬ ConditionHolds (allFlags false) .m :=
  ⟨by decide, by simp [signConditions, ConditionHolds, allFlags], by simp [signConditions, ConditionHolds, allFlags]⟩

theorem witness_haltStopsUntilResumed : Enabled hltDemo ∧ hltDemo.readByte hltDemo.pc = 0x76#8 := ⟨⟨rfl, rfl⟩, by decide⟩

/-- RunEndsExactlyAtHaltStep: a launch whose run has ended after one step and, looked at later, after two; the HLT step; and one
that has faulted. -/
theorem witness_runEndsExactlyAtHaltStep :
    (runOf .execute 0x2400#16 [0x76#8] 1 = .ok (.ended ended) ∧ runOf .execute 0x2400#16 [0x76#8] 2 = .ok (.ended ended)) ∧
    (State.launch 0x2400#16 [0x76#8] = .ok launched ∧ launched.history .execute (List.replicate 0 .step) = .next launched ∧
      EndsRun .execute launched ended) ∧
    runOf .fault 0x2400#16 [0x00#8] 1 = .ok (.faulted ⟨0x00#8, 0x0000#16⟩) :=
  ⟨⟨rfl, rfl⟩, ⟨rfl, rfl, ⟨rfl, rfl⟩, rfl, rfl, ⟨rfl, rfl⟩, rfl⟩, rfl⟩

/-- `demo` after PUSH B: both bytes pushed are zero, the high one to address 0, the low one to 0xFFFF. -/
def pushed : State := { demo with mem := [], sp := 0xFFFF#16, pc := 0x0000#16 }

theorem witness_pushThenPopRestores : Memory.wf demo.mem = true ∧ exec (Form.push .bc).instr demo = .next pushed ∧
    exec (Form.pop .bc).instr pushed = .next { demo with mem := [], pc := 0x0001#16 } := ⟨by decide, rfl, rfl⟩

/-- `demo` after CALL 1234: the return address 0x0002, its high byte at address 0, its low byte at 0xFFFF. -/
def called : State := { demo with mem := [(65535, 0x02#8)], sp := 0xFFFF#16, pc := 0x1234#16 }

theorem witness_callThenReturnResumes : Memory.wf demo.mem = true ∧ exec (.call 0x1234#16) demo = .next called ∧
    exec .ret called = .next { demo with mem := [(65535, 0x02#8)], pc := 0x0002#16 } := ⟨by decide, rfl, rfl⟩

end Sys2Proof.Tests
end

section
/-! The state after reset and the run flag (10_state.md R41, R44; 40_step.md R101). -/

namespace Sys2Proof.Machine

/-- Every register is zero after reset (10_state.md R41). -/
@[simp] theorem State.reset_regs_get (r : Reg) : State.reset.regs.get r = 0 := by
  cases r <;> rfl

@[simp] theorem State.reset_run : State.reset.run = false := rfl

@[simp] theorem State.reset_fault : State.reset.fault = none := rfl

/-- Halted and enabled exclude each other: they differ on the run flag (40_step.md R101). -/
theorem Halted.not_enabled {s : State} (halted : Halted s) : ¬ Enabled s := by
  intro enabled
  obtain ⟨stopped, -⟩ := halted
  obtain ⟨running, -⟩ := enabled
  simp [stopped] at running

/-- The driver's move `run <- true` enables every machine that has not faulted (60_exceptions.md R297). -/
theorem State.drive_resume_enabled {s : State} (unfaulted : s.fault = none) : Enabled (s.drive .resume) := by
  rw [s.drive_resume unfaulted]
  exact ⟨rfl, unfaulted⟩

theorem State.reset_halted : Halted State.reset := ⟨State.reset_run, State.reset_fault⟩

/-- Settles O12: the registers by cases on the register; the reset state is halted, so no step is enabled until the driver
resumes it, and it has no fault that would keep the driver from doing so. -/
theorem resetRegistersAndRunFlag : Obligations.ResetRegistersAndRunFlag :=
  ⟨State.reset_regs_get, State.reset_run, State.reset_halted.not_enabled, State.drive_resume_enabled State.reset_fault⟩

end Sys2Proof.Machine
end

section
/-! The step of an enabled machine whose opcode does not raise, from what its fetched bytes decode to (40_step.md R100), and
the six opcode bytes that the source prints (30_encoding.md R89). -/

namespace Sys2Proof.Machine

/-- Only a Tier G byte can raise, so any other byte executes in both modes (00_scope.md R11; 30_encoding.md R84). -/
theorem raisesIn_of_tierOf_ne_g (mode : UnsourcedMode) {op : Byte} (notG : tierOf op ≠ .g) :
    raisesIn mode op = false := by
  cases mode with
  | execute => rfl
  | fault => simp [raisesIn, notG]

/-- A one-byte instruction fetches its opcode and nothing else (40_step.md R102). -/
theorem State.fetchBytes_of_opLength_one {s : State} (single : opLength s.opcode = 1) : s.fetchBytes = [s.opcode] := by
  rw [State.fetchBytes, single]
  simp [State.opcode]

/-- A step that does not raise is the effect of the instruction that the fetched bytes decode to (40_step.md R100). -/
theorem stepIn_of_decode {mode : UnsourcedMode} {s : State} {i : Instr} {rest : List Byte} (enabled : Enabled s)
    (quiet : raisesIn mode s.opcode = false) (fetched : decode s.fetchBytes = .ok (i, rest)) :
    stepIn mode s = .next (effect s i.form) := by
  obtain ⟨running, unfaulted⟩ := enabled
  rw [stepIn_enabled _ _ unfaulted running]
  simp [State.executeOne, quiet, fetched, exec_eq]

/-- The unassigned byte 0x08 does not raise in either mode and advances `pc` by one (30_encoding.md R89). -/
theorem stepIn_opcode_08 (mode : UnsourcedMode) {s : State} (enabled : Enabled s) (slot : s.opcode = 0x08#8) :
    stepIn mode s = .next (s.advance 1) := by
  have quiet : raisesIn mode s.opcode = false := raisesIn_of_tierOf_ne_g mode (by rw [slot]; decide)
  have bytes : s.fetchBytes = [0x08#8] := by
    rw [State.fetchBytes_of_opLength_one (by rw [slot]; decide), slot]
  have fetched : decode s.fetchBytes = .ok (.nop08, []) := by rw [bytes]; decide
  exact stepIn_of_decode enabled quiet fetched

/-- Settles O4: the six table words are closed decodings, one row of the opcode map each; 0x08 is a one-byte row outside
Tier G, so its step is the advance in both modes. -/
theorem printedBytesDecode : Obligations.PrintedBytesDecode :=
  ⟨by decide, by decide, by decide, by decide, by decide, by decide,
    fun mode _ enabled slot => stepIn_opcode_08 mode enabled slot⟩

end Sys2Proof.Machine
end

section
/-! The 8-bit ALU instructions: their frame, their encodings, and addition with and without the carry in (41_alu8.md R120 to
R123, R136, R137); DAA (R148). -/

namespace Sys2Proof.Machine

/-- The instruction of a family encodes as the family does (30_encoding.md R71). -/
theorem encode_instr (f : Form) : encode f.instr = f.encode := by
  rw [encode, form_instr]

/-- What every ALU instruction leaves unchanged, and where it leaves `pc` (41_alu8.md R120 to R143). -/
theorem State.alu_frame (s : State) (op : AluOp) (src : AluSrc) :
    (s.alu op src).pc = afterAlu s src ∧ SameRegsBut .a s (s.alu op src) ∧ (s.alu op src).sp = s.sp ∧
      SameMemory s (s.alu op src) ∧ SameControl s (s.alu op src) :=
  ⟨next_srcLength s src, sameRegsBut_set _ _ _ _ (s.alu_regs op src), s.alu_sp op src,
    sameMemory_of_mem _ _ (s.alu_mem op src), s.alu_run op src, s.alu_fault op src, s.alu_ioCount op src,
    s.alu_outEvents op src⟩

/-- ADD and ADC are one addition: the carry in is `CY` for ADC, none for ADD (41_alu8.md R120, R122). -/
theorem aluOut_addition (carries : Bool) (x y : Byte) (cy : Bool) :
    aluOut (if carries then .adc else .add) x y cy = add8 x y (carries && cy) := by
  cases carries <;> rfl

/-- An addition keeps its result in A (41_alu8.md R120, R122). -/
theorem aluAcc_addition (carries : Bool) (x res : Byte) :
    aluAcc (if carries then .adc else .add) x res = res := by
  cases carries <;> rfl

/-- A after an addition is the result of `Add8` (40_step.md R107). -/
theorem State.alu_addition_a (s : State) (src : AluSrc) (carries : Bool) :
    (s.alu (if carries then .adc else .add) src).regs.a =
      (add8 s.regs.a (sourceByte s src) (carries && s.flags.cy)).res := by
  simp [aluAcc_addition, aluOut_addition, readSrc_eq]

/-- The flags after an addition are those of `Add8` (40_step.md R107). -/
theorem State.alu_addition_flags (s : State) (src : AluSrc) (carries : Bool) :
    (s.alu (if carries then .adc else .add) src).flags =
      s.flags.ofAlu (add8 s.regs.a (sourceByte s src) (carries && s.flags.cy)) := by
  rw [State.alu_flags, aluOut_addition, readSrc_eq]

/-- The carry in as the statements write it. -/
theorem toNat_and_eq_ite (b c : Bool) : (b && c).toNat = if b = true ∧ c = true then 1 else 0 := by
  simp only [Bool.toNat, Bool.cond_eq_ite, Bool.and_eq_true]

/-- Settles O27: the encodings are those of the families; A and the flags are those of one `Add8` whose carry in is `CY` for
the forms with carry, and the rest is the frame of every ALU instruction. -/
theorem addAndAddWithCarry : Obligations.AddAndAddWithCarry := by
  refine ⟨fun r => ⟨encode_instr _, encode_instr _⟩, rfl, rfl, fun _ => ⟨rfl, rfl⟩, ?_⟩
  intro s src carries x y cin
  have carryIn : (carries && s.flags.cy).toNat = cin := toNat_and_eq_ite _ _
  refine ⟨_, exec_instr _ s, ?_, ?_, ?_, ?_, s.alu_frame _ src⟩ <;>
    simp only [effect, State.alu_addition_a, State.alu_addition_flags]
  · rw [add8_res, carryIn]
  · exact resultFlags_ofAlu _ _
  · rw [Flags.ofAlu_cy, add8_cy, carryIn]
  · rw [Flags.ofAlu_ac, add8_ac, carryIn]

/-- Settles O33: the effect of DAA's family is the advance of `pc` by one. -/
theorem decimalAdjustIsNoOperation : Obligations.DecimalAdjustIsNoOperation :=
  ⟨encode_instr .daa, exec_eq .daa⟩

end Sys2Proof.Machine
end

section
/-! The data movement instructions: each puts a byte in a register, stores a byte or writes a pair, advances `pc` and leaves
the rest of the state (43_data_movement.md R180 to R189). -/

namespace Sys2Proof.Machine

/-! ## A register loaded, a byte stored -/

/-- `t` is `s` with the byte `v` in register `r` and `pc` `len` bytes on. -/
def RegisterLoaded (s t : State) (r : Reg) (v : Byte) (len : Word) : Prop :=
  t.regs.get r = v ∧ SameRegsBut r s t ∧ t.pc = s.pc + len ∧ t.flags = s.flags ∧ t.sp = s.sp ∧ SameMemory s t ∧
    SameControl s t

/-- `t` is `s` with the byte `v` at address `a` and `pc` `len` bytes on. -/
def ByteStored (s t : State) (a : Word) (v : Byte) (len : Word) : Prop :=
  t.readByte a = v ∧ SameMemoryOutside [a] s t ∧ t.pc = s.pc + len ∧ t.flags = s.flags ∧ t.regs = s.regs ∧ t.sp = s.sp ∧
    SameControl s t

theorem registerLoaded_setReg_advance (s : State) (r : Reg) (v : Byte) (len : Word) :
    RegisterLoaded s ((s.setReg r v).advance len) r v len :=
  ⟨Regs.get_set_same _ r v, sameRegsBut_set _ _ r v rfl, rfl, rfl, rfl, sameMemory_of_mem _ _ rfl,
    ⟨rfl, rfl, rfl, rfl⟩⟩

theorem byteStored_writeByte_advance {s : State} (a : Word) (v : Byte) (len : Word) (wf : Memory.wf s.mem = true) :
    ByteStored s ((s.writeByte a v).advance len) a v len := by
  obtain ⟨stored, elsewhere⟩ := storesByte s ((s.writeByte a v).advance len) a v wf rfl
  exact ⟨stored, elsewhere, rfl, rfl, rfl, rfl, ⟨rfl, rfl, rfl, rfl⟩⟩

/-! ## The instructions as loads and stores -/

theorem State.mov_reg_reg (s : State) (dst src : Reg) :
    s.mov (.reg dst) (.reg src) = (s.setReg dst (s.regs.get src)).advance 1 := rfl

theorem State.mov_reg_m (s : State) (dst : Reg) :
    s.mov (.reg dst) .m = (s.setReg dst (s.readByte (addressM s))).advance 1 := by
  rw [State.mov, readOperand_m_eq, State.writeOperand]

theorem State.mov_m_reg (s : State) (src : Reg) :
    s.mov .m (.reg src) = (s.writeByte (addressM s) (s.regs.get src)).advance 1 := by
  rw [State.mov, State.readOperand_reg, State.writeOperand, hl_eq_addressM]

theorem State.mvi_reg (s : State) (r : Reg) (d8 : Byte) : s.mvi (.reg r) d8 = (s.setReg r d8).advance 2 := rfl

theorem State.mvi_m (s : State) (d8 : Byte) : s.mvi .m d8 = (s.writeByte (addressM s) d8).advance 2 := by
  rw [State.mvi, State.writeOperand, hl_eq_addressM]

/-- A 16-bit operand is encoded low byte first (30_encoding.md R71). -/
theorem operandBytes_eq (v : Word) : operandBytes v = [lowHalf v, highHalf v] := by
  rw [operandBytes, lo_eq_lowHalf, hi_eq_highHalf]

/-- LDA and LDAX: A takes the byte at the address, wherever the address comes from (43_data_movement.md R186, R188). -/
theorem registerLoaded_loadA (s : State) (a len : Word) : RegisterLoaded s (s.loadA a len) .a (s.readByte a) len :=
  registerLoaded_setReg_advance s .a (s.readByte a) len

/-- STA and STAX: A is stored at the address (43_data_movement.md R187, R189). The conclusion is in the order in which
`Obligations.AccumulatorLoadAndStore` lists it. -/
theorem storeA_spec {s : State} (a len : Word) (wf : Memory.wf s.mem = true) :
    (s.storeA a len).readByte a = s.regs.a ∧ SameMemoryOutside [a] s (s.storeA a len) ∧
      (s.storeA a len).regs = s.regs ∧ (s.storeA a len).pc = s.pc + len ∧ (s.storeA a len).flags = s.flags ∧
      (s.storeA a len).sp = s.sp ∧ SameControl s (s.storeA a len) := by
  obtain ⟨stored, elsewhere, pc, flags, regs, sp, control⟩ := byteStored_writeByte_advance a s.regs.a len wf
  exact ⟨stored, elsewhere, regs, pc, flags, sp, control⟩

/-! ## The statements -/

/-- Settles O38: MOV r,r' puts the source's value in the destination; with `dst = src` the value is the register's own. -/
theorem moveRegister : Obligations.MoveRegister := by
  refine fun dst src => ⟨encode_instr _, fun s => ⟨_, exec_instr _ s, ?_⟩⟩
  rw [effect, State.mov_reg_reg]
  obtain ⟨taken, others, rest⟩ := registerLoaded_setReg_advance s dst (s.regs.get src) 1
  refine ⟨taken, others, ?_, rest⟩
  rintro rfl
  exact Regs.set_get_same s.regs dst

/-- Settles O39: `M` is the byte at `HL` as the state before the instruction has it, so neither a destination H or L nor a
source H or L disturbs the address. -/
theorem moveMemory : Obligations.MoveMemory := by
  refine fun r => ⟨encode_instr _, encode_instr _, fun s wf => ⟨⟨_, exec_instr _ s, ?_⟩, _, exec_instr _ s, ?_⟩⟩
  · rw [effect, State.mov_reg_m]
    exact registerLoaded_setReg_advance s r _ 1
  · rw [effect, State.mov_m_reg]
    exact byteStored_writeByte_advance _ _ 1 wf

/-- Settles O40: MVI puts the immediate in the register, or stores it at `HL`. -/
theorem moveImmediate : Obligations.MoveImmediate := by
  refine fun d8 => ⟨fun r => ⟨encode_instr _, fun s => ⟨_, exec_instr _ s, ?_⟩⟩, rfl,
    fun s wf => ⟨_, exec_instr (.mvi .m d8) s, ?_⟩⟩
  · rw [effect, State.mvi_reg]
    exact registerLoaded_setReg_advance s r d8 2
  · rw [effect, State.mvi_m]
    exact byteStored_writeByte_advance _ d8 2 wf

/-- Settles O41: LXI writes the pair and advances by three. -/
theorem loadPairImmediate : Obligations.LoadPairImmediate := by
  refine fun p d16 => ⟨?_, fun s => ⟨(s.writePair p d16).advance 3, exec_instr _ s, ?_⟩⟩
  · rw [encode_instr, Form.encode, operandBytes_eq]
  · exact ⟨pairWritten_of s _ p d16 rfl rfl, by simp, by simp, sameMemory_of_mem _ _ (by simp),
      by simp [SameControl]⟩

/-- Settles O42: the six forms are one load and one store of A, at the operand's address or at the value of BC or DE. -/
theorem accumulatorLoadAndStore : Obligations.AccumulatorLoadAndStore := by
  refine ⟨fun adr => ?_, rfl, rfl, rfl, rfl, fun s adr => ?_⟩
  · rw [← operandBytes_eq]
    exact ⟨rfl, rfl⟩
  have bc : s.readPair .bc = pairOf s.regs.b s.regs.c := readPair_eq s .bc
  have de : s.readPair .de = pairOf s.regs.d s.regs.e := readPair_eq s .de
  rw [← bc, ← de]
  exact ⟨⟨_, exec_eq _ s, registerLoaded_loadA s adr 3⟩, ⟨_, exec_eq _ s, registerLoaded_loadA s _ 1⟩,
    ⟨_, exec_eq _ s, registerLoaded_loadA s _ 1⟩, fun wf => ⟨⟨_, exec_eq _ s, storeA_spec adr 3 wf⟩,
      ⟨_, exec_eq _ s, storeA_spec _ 1 wf⟩, _, exec_eq _ s, storeA_spec _ 1 wf⟩⟩

end Sys2Proof.Machine
end

section
/-! Control flow: the jumps, taken and not taken (44_control_flow.md R210 to R216), PCHL and SPHL (R238, R239), and HLT, which
stops the machine until the driver resumes it (R240). -/

namespace Sys2Proof.Machine

/-! ## Jumps and transfers from HL -/

/-- A conditional jump whose condition holds is the jump: `pc` past the instruction is overwritten (44_control_flow.md R211). -/
theorem State.jumpIf_of_holds {s : State} {cond : Cond} (adr : Word) (holds : ConditionHolds s.flags cond) :
    s.jumpIf cond adr = s.jumpTo adr := by
  have tested : (s.advance 3).flags.cond cond = true := (cond_iff s.flags cond).2 holds
  rw [State.jumpIf, if_pos tested]
  rfl

/-- A conditional jump whose condition fails is the advance past its three bytes (44_control_flow.md R211). -/
theorem State.jumpIf_of_not_holds {s : State} {cond : Cond} (adr : Word) (fails : ¬ ConditionHolds s.flags cond) :
    s.jumpIf cond adr = s.advance 3 := by
  have tested : ¬ (s.advance 3).flags.cond cond = true := fails ∘ (cond_iff s.flags cond).1
  rw [State.jumpIf, if_neg tested]

/-- Settles O45: JMP is the jump, and a conditional jump is the jump or the advance by three as its condition says; the two
operand bytes are the address, low byte first. -/
theorem jumps : Obligations.Jumps := by
  intro adr
  rw [← operandBytes_eq]
  refine ⟨rfl, exec_eq (.jmp adr), fun cond _ => ⟨encode_instr _, fun s => ⟨fun holds => ?_, fun fails => ?_⟩⟩⟩
  · rw [exec_instr, effect, State.jumpIf_of_holds adr holds, State.jumpTo]
  · rw [exec_instr, effect, State.jumpIf_of_not_holds adr fails, State.advance]

/-- Settles O50: PCHL is a jump to HL, SPHL writes HL to `sp` and advances; HL is the arithmetic pair of H and L. -/
theorem transfersFromHL : Obligations.TransfersFromHL := by
  refine ⟨rfl, rfl, fun s => ?_⟩
  have hl : s.regs.hl = pairOf s.regs.h s.regs.l := cat_eq_pairOf _ _
  rw [← hl]
  exact ⟨exec_eq .pchl s, exec_eq .sphl s⟩

/-! ## HLT -/

/-- The step on a one-byte opcode that does not raise: the effect of what the opcode alone decodes to (40_step.md R100,
R102). -/
theorem stepIn_of_decode_opcode {mode : UnsourcedMode} {s : State} {i : Instr} (enabled : Enabled s)
    (quiet : raisesIn mode s.opcode = false) (single : opLength s.opcode = 1)
    (decoded : decode [s.opcode] = .ok (i, [])) : stepIn mode s = .next (effect s i.form) := by
  rw [← State.fetchBytes_of_opLength_one single] at decoded
  exact stepIn_of_decode enabled quiet decoded

/-- The byte 0x76 is HLT in both modes: it is no Tier G byte (30_encoding.md R84; 44_control_flow.md R240). -/
theorem stepIn_opcode_76 (mode : UnsourcedMode) {s : State} (enabled : Enabled s) (hlt : s.opcode = 0x76#8) :
    stepIn mode s = .next s.halt := by
  have quiet : raisesIn mode s.opcode = false := raisesIn_of_tierOf_ne_g mode (by rw [hlt]; decide)
  have decoded : decode [s.opcode] = .ok (.hlt, []) := by rw [hlt]; decide
  exact stepIn_of_decode_opcode enabled quiet (by rw [hlt]; decide) decoded

/-- HLT halts a machine that has not faulted (60_exceptions.md R285). -/
theorem State.halt_halted {s : State} (unfaulted : s.fault = none) : Halted s.halt := ⟨s.halt_run, unfaulted⟩

/-- A step that fetches HLT ends the run (60_exceptions.md R300). -/
theorem endsRun_halt (mode : UnsourcedMode) {s : State} (enabled : Enabled s) (hlt : s.opcode = 0x76#8) :
    EndsRun mode s s.halt :=
  ⟨enabled, hlt, stepIn_opcode_76 mode enabled hlt, State.halt_halted enabled.2, s.halt_pc⟩

/-- The driver never moves `pc` (60_exceptions.md R297). -/
@[simp] theorem State.drive_pc (s : State) (move : DriverMove) : (s.drive move).pc = s.pc := by
  unfold State.drive
  split <;> rfl

/-- Settles O51: the step on HLT leaves the machine halted just past it, so not enabled; no fault is recorded, so the driver's
`resume` enables it, and it leaves `pc` there. -/
theorem haltStopsUntilResumed : Obligations.HaltStopsUntilResumed := by
  refine ⟨rfl, fun s => ⟨exec_eq .hlt s, fun mode enabled hlt => ?_⟩⟩
  have halted : Halted s.halt := State.halt_halted enabled.2
  exact ⟨s.halt, stepIn_opcode_76 mode enabled hlt, endsRun_halt mode enabled hlt, s.halt_pc, halted.not_enabled,
    State.drive_resume_enabled halted.2, s.halt.drive_pc .resume⟩

end Sys2Proof.Machine
end

section
/-! Decoding and encoding (30_encoding.md): the rows of the opcode map against the encoder, what a decoding says of the bytes,
and that a step runs what is encoded at `pc` (40_step.md R100 to R102). -/

namespace Sys2Proof

open Machine

/-! ## Decoding by the row of the opcode -/

/-- The instruction of a row with its operand: no operand, the low half of `v`, or all of `v` (30_encoding.md R71). -/
def Shape.instr (v : Word) : Shape → Instr
  | .f1 i => i
  | .f2 i => i (lo v)
  | .f3 i => i v

/-- The operand bytes of a row, low byte first (30_encoding.md R71). -/
def Shape.operands (v : Word) : Shape → List Byte
  | .f1 _ => []
  | .f2 _ => [lo v]
  | .f3 _ => operandBytes v

theorem decode_of_shape {op : Byte} {sh : Shape} (row : shapeOf op = some sh) (v : Word) (rest : List Byte) :
    decode (op :: sh.operands v ++ rest) = .ok (sh.instr v, rest) := by
  cases sh <;> simp [decode, row, Shape.instr, Shape.operands, operandBytes]

theorem decode_of_f1 {op : Byte} {i : Instr} (row : shapeOf op = some (.f1 i)) (rest : List Byte) :
    decode ([op] ++ rest) = .ok (i, rest) :=
  decode_of_shape row 0 rest

theorem decode_of_f2 {op : Byte} {i : Byte → Instr} (row : shapeOf op = some (.f2 i)) (d : Byte) (rest : List Byte) :
    decode ([op, d] ++ rest) = .ok (i d, rest) := by
  have read := decode_of_shape row (cat 0 d) rest
  rwa [Shape.operands, Shape.instr, lo_cat] at read

theorem decode_of_f3 {op : Byte} {i : Word → Instr} (row : shapeOf op = some (.f3 i)) (v : Word) (rest : List Byte) :
    decode (op :: operandBytes v ++ rest) = .ok (i v, rest) :=
  decode_of_shape row v rest

/-! ## Decoding an encoding -/

/-- The bit patterns of every family fall on its own rows of the opcode map (30_encoding.md R79 to R82). -/
theorem decode_form_encode (f : Form) (rest : List Byte) : decode (f.encode ++ rest) = .ok (f.instr, rest) := by
  cases f with
  | alu op src =>
    cases src with
    | reg r => exact decode_of_f1 (by cases op <;> cases r <;> rfl) rest
    | m => exact decode_of_f1 (by cases op <;> rfl) rest
    | imm d8 => exact decode_of_f2 (i := fun d => (Form.alu op (.imm d)).instr) (by cases op <;> rfl) d8 rest
  | inr o =>
    cases o with
    | reg r => exact decode_of_f1 (by cases r <;> rfl) rest
    | m => exact decode_of_f1 rfl rest
  | dcr o =>
    cases o with
    | reg r => exact decode_of_f1 (by cases r <;> rfl) rest
    | m => exact decode_of_f1 rfl rest
  | mvi o d8 =>
    cases o with
    | reg r => exact decode_of_f2 (i := fun d => (Form.mvi (.reg r) d).instr) (by cases r <;> rfl) d8 rest
    | m => exact decode_of_f2 (i := .mviM) rfl d8 rest
  | inx p => exact decode_of_f1 (by cases p <;> rfl) rest
  | dcx p => exact decode_of_f1 (by cases p <;> rfl) rest
  | dad p => exact decode_of_f1 (by cases p <;> rfl) rest
  | movRR dst src => exact decode_of_f1 (by cases dst <;> cases src <;> rfl) rest
  | movRM dst => exact decode_of_f1 (by cases dst <;> rfl) rest
  | movMR src => exact decode_of_f1 (by cases src <;> rfl) rest
  | ldax p => exact decode_of_f1 (by cases p <;> rfl) rest
  | stax p => exact decode_of_f1 (by cases p <;> rfl) rest
  | retIf cond => exact decode_of_f1 (by cases cond <;> rfl) rest
  | rst n => exact decode_of_f1 (by fin_cases n <;> rfl) rest
  | push p => exact decode_of_f1 (by cases p <;> rfl) rest
  | pop p => exact decode_of_f1 (by cases p <;> rfl) rest
  | unassigned slot => exact decode_of_f1 (by cases slot <;> rfl) rest
  | inPort d8 => exact decode_of_f2 (i := .inPort) rfl d8 rest
  | outPort d8 => exact decode_of_f2 (i := .outPort) rfl d8 rest
  | lxi p d16 => exact decode_of_f3 (i := fun v => (Form.lxi p v).instr) (by cases p <;> rfl) d16 rest
  | jumpIf cond adr =>
    exact decode_of_f3 (i := fun v => (Form.jumpIf cond v).instr) (by cases cond <;> rfl) adr rest
  | callIf cond adr =>
    exact decode_of_f3 (i := fun v => (Form.callIf cond v).instr) (by cases cond <;> rfl) adr rest
  | lda adr => exact decode_of_f3 (i := .lda) rfl adr rest
  | sta adr => exact decode_of_f3 (i := .sta) rfl adr rest
  | shld adr => exact decode_of_f3 (i := .shld) rfl adr rest
  | lhld adr => exact decode_of_f3 (i := .lhld) rfl adr rest
  | jmp adr => exact decode_of_f3 (i := .jmp) rfl adr rest
  | call adr => exact decode_of_f3 (i := .call) rfl adr rest
  | _ => exact decode_of_f1 rfl rest

/-- Settles O1: the encoding of an instruction is that of its family, which decodes to the family's instruction. -/
theorem decodeOfEncodeIsInstruction : Obligations.DecodeOfEncodeIsInstruction := by
  intro i rest
  rw [encode, decode_form_encode, instr_form]

/-! ## What a decoding says of the bytes -/

/-- Every row of the opcode map stands at the byte that the encoder gives its instruction (30_encoding.md R79 to R82): one
evaluation per byte, the operand left open. -/
theorem map_encode_shapeOf (op : Byte) (v : Word) :
    (shapeOf op).map (fun sh => encode (sh.instr v)) = (shapeOf op).map (fun sh => op :: sh.operands v) := by
  obtain ⟨n, lt, rfl⟩ : ∃ n < 256, op = BitVec.ofNat 8 n := ⟨op.toNat, op.isLt, by simp⟩
  interval_cases n <;> rfl

theorem encode_of_shape {op : Byte} {sh : Shape} (row : shapeOf op = some sh) (v : Word) :
    encode (sh.instr v) = op :: sh.operands v := by
  have rows := map_encode_shapeOf op v
  rw [row] at rows
  exact Option.some.inj rows

/-- A row has as many operand bytes as its opcode's length says (30_encoding.md R72). -/
theorem opLength_of_shape {op : Byte} {sh : Shape} (row : shapeOf op = some sh) (v : Word) :
    opLength op = (sh.operands v).length + 1 := by
  have len := opLength_shape op
  rw [row] at len
  cases sh <;> exact eq_of_beq len

/-- Bytes as long as the opcode says begin with the operand of its row. -/
theorem exists_operands {op : Byte} {sh : Shape} (row : shapeOf op = some sh) {rest : List Byte}
    (enough : opLength op ≤ rest.length + 1) : ∃ v, rest = sh.operands v ++ rest.drop (opLength op - 1) := by
  rw [opLength_of_shape row 0] at enough ⊢
  cases sh with
  | f1 i => exact ⟨0, rfl⟩
  | f2 i =>
    obtain _ | ⟨d, rest⟩ := rest
    · simp [Shape.operands] at enough
    · exact ⟨cat 0 d, by simp [Shape.operands]⟩
  | f3 i =>
    obtain _ | ⟨low, _ | ⟨high, rest⟩⟩ := rest
    · simp [Shape.operands, operandBytes] at enough
    · simp [Shape.operands, operandBytes] at enough
    · exact ⟨cat high low, by simp [Shape.operands, operandBytes]⟩

/-- What decodes is as long as its opcode says. -/
theorem opLength_le_of_decode {op : Byte} {sh : Shape} (row : shapeOf op = some sh) {tail : List Byte}
    {r : Instr × List Byte} (h : decode (op :: tail) = .ok r) : opLength op ≤ tail.length + 1 := by
  rw [opLength_of_shape row 0]
  cases sh with
  | f1 i => simp [Shape.operands]
  | f2 i =>
    obtain _ | ⟨d, tail⟩ := tail
    · simp [decode, row] at h
    · simp [Shape.operands]
  | f3 i =>
    obtain _ | ⟨low, _ | ⟨high, tail⟩⟩ := tail
    · simp [decode, row] at h
    · simp [decode, row] at h
    · simp [Shape.operands, operandBytes]

/-- What decodes is an opcode byte with the operand of its row, then the bytes left over. -/
theorem decode_inversion {bytes rest : List Byte} {i : Instr} (h : decode bytes = .ok (i, rest)) :
    ∃ op sh v, shapeOf op = some sh ∧ bytes = op :: sh.operands v ++ rest ∧ i = sh.instr v := by
  cases bytes with
  | nil => cases h
  | cons op tail =>
    obtain ⟨sh, row⟩ := shapeOf_isSome op
    obtain ⟨v, parts⟩ := exists_operands row (opLength_le_of_decode row h)
    rw [parts, ← List.cons_append, decode_of_shape row] at h
    injection h with h
    injection h with instr left
    exact ⟨op, sh, v, row, by rw [← left, List.cons_append, ← parts], instr.symm⟩

/-- Settles O2: the bytes are an opcode with the operand of its row, and so is the encoding of the row's instruction. -/
theorem encodeOfDecodeIsBytes : Obligations.EncodeOfDecodeIsBytes := by
  intro bytes rest i decoded
  obtain ⟨op, sh, v, row, rfl, rfl⟩ := decode_inversion decoded
  rw [encode_of_shape row]

/-- The two lists of 30_encoding.md R72 are the bit conditions of the length. -/
theorem opLength_eq_lists : ∀ op : Byte,
    opLength op = if op ∈ threeByteOpcodes then 3 else if op ∈ twoByteOpcodes then 2 else 1 := by
  decide

/-- Settles O3: the lengths byte by byte; bytes as long as the opcode says are the opcode with the operand of its row, which
decode to the row's instruction, of that encoded length. -/
theorem everyOpcodeDecodesAtItsLength : Obligations.EveryOpcodeDecodesAtItsLength := by
  refine fun op rest => ⟨opLength_eq_lists op, fun enough => ?_⟩
  obtain ⟨sh, row⟩ := shapeOf_isSome op
  obtain ⟨v, parts⟩ := exists_operands row enough
  have read := decode_of_shape row v (rest.drop (opLength op - 1))
  rw [List.cons_append, ← parts] at read
  exact ⟨sh.instr v, read, by rw [encode_of_shape row, opLength_of_shape row v, List.length_cons]⟩

end Sys2Proof
end

section
/-! The step (40_step.md R100 to R102; 60_exceptions.md R281 to R286): it runs what is encoded at `pc`, raises on a Tier G byte
in mode `fault` only, and does nothing on a stopped machine. -/

namespace Sys2Proof.Machine

/-! ## Which bytes raise -/

theorem tierOf_eq_g_iff (op : Byte) : tierOf op = .g ↔ op ∈ tierGOpcodes := by
  rw [← List.contains_iff_mem, tierOf]
  cases tierGOpcodes.contains op with
  | true => simp
  | false => cases tierUOpcodes.contains op <;> simp

theorem raisesIn_fault_iff (op : Byte) : raisesIn .fault op = true ↔ op ∈ tierGOpcodes := by
  rw [← tierOf_eq_g_iff, raisesIn, beq_iff_eq]

theorem raisesIn_eq_false {mode : UnsourcedMode} {op : Byte} (quiet : mode = .fault → op ∉ tierGOpcodes) :
    raisesIn mode op = false := by
  cases mode with
  | execute => rfl
  | fault => exact Bool.eq_false_iff.2 (quiet rfl ∘ (raisesIn_fault_iff op).1)

/-- The raise: only the record is written (60_exceptions.md R283). -/
theorem stepIn_fault_raises {s : State} (enabled : Enabled s) (unsourced : s.opcode ∈ tierGOpcodes) :
    stepIn .fault s = .next (s.raiseUnimplemented s.opcode s.pc) := by
  obtain ⟨running, unfaulted⟩ := enabled
  rw [stepIn_enabled _ _ unfaulted running, State.executeOne, if_pos ((raisesIn_fault_iff _).2 unsourced)]

/-! ## What the step fetches -/

/-- An encoding is an opcode byte and as many operand bytes as its length says (30_encoding.md R71, R72). -/
theorem encode_eq_cons (i : Instr) : ∃ op operands, encode i = op :: operands ∧
    opLength op = operands.length + 1 := by
  obtain ⟨op, sh, v, row, bytes, -⟩ := decode_inversion (decodeOfEncodeIsInstruction i [])
  exact ⟨op, sh.operands v, by simpa using bytes, opLength_of_shape row v⟩

/-- Where memory holds an instruction's encoding from `pc` on, the step fetches that encoding. -/
theorem State.fetchBytes_eq_encode {s : State} {i : Instr} (held : ∀ (k : Nat) (h : k < (encode i).length),
    s.readByte (s.pc + BitVec.ofNat 16 k) = (encode i)[k]) : s.fetchBytes = encode i := by
  obtain ⟨op, operands, bytes, len⟩ := encode_eq_cons i
  have opcode : s.opcode = op := by simpa [State.opcode, bytes] using held 0 (by simp [bytes])
  rw [State.fetchBytes, opcode, len]
  exact List.ext_getElem (by simp [bytes]) fun k _ h => by simpa using held k h

/-! ## The statements -/

/-- Settles O5: in mode `execute` no byte raises. -/
theorem stepRunsDecodedInstruction : Obligations.StepRunsDecodedInstruction := by
  intro s i rest enabled fetched
  rw [exec_eq]
  exact stepIn_of_decode enabled rfl fetched

/-- Settles O6: the bytes fetched are the encoding, which decodes to the instruction. -/
theorem stepRunsEncodedInstruction : Obligations.StepRunsEncodedInstruction := by
  intro mode s i enabled held quiet
  have fetched : decode s.fetchBytes = .ok (i, []) := by
    rw [State.fetchBytes_eq_encode held, ← List.append_nil (encode i), decodeOfEncodeIsInstruction]
  rw [exec_eq]
  exact stepIn_of_decode enabled (raisesIn_eq_false quiet) fetched

/-- Settles O7: a halted machine is the idle case of the step. -/
theorem notRunningChangesNothing : Obligations.NotRunningChangesNothing :=
  fun mode s ⟨stopped, unfaulted⟩ => stepIn_idle mode s unfaulted stopped

/-- Settles O8: the driver's moves leave a faulted machine as it is, and its step answers the record. -/
theorem faultedMachineNeverSteps : Obligations.FaultedMachineNeverSteps := by
  intro mode s r move faulted
  rw [State.drive_faulted s r faulted]
  exact ⟨stepIn_faulted mode s r faulted, stepIn_faulted mode s r faulted⟩

/-- Settles O10: the step is the raise, and the record it leaves stops every later step. -/
theorem faultModeRaisesOnTierG : Obligations.FaultModeRaisesOnTierG := by
  intro s enabled unsourced
  refine ⟨_, stepIn_fault_raises enabled unsourced, rfl, fun mode u next => ?_⟩
  rw [stepIn_faulted mode _ _ rfl] at next
  cases next

/-- Settles O11: the mode is read only to decide the raise, and off Tier G neither mode raises. -/
theorem modesAgreeOffTierG : Obligations.ModesAgreeOffTierG := by
  intro s sourced
  have quiet : raisesIn .fault s.opcode = raisesIn .execute s.opcode := raisesIn_eq_false fun _ => sourced
  simp only [stepIn, State.executeOne, quiet]

end Sys2Proof.Machine
end

section
/-! What every instruction leaves unchanged, said of the effects of the families (10_state.md R27, R29, R32, R33; 20_memory.md
R54): one lemma per part of the state, by cases on the family. -/

namespace Sys2Proof.Machine

/-! ## The composite operations, as the shared ones whose fields simp knows -/

variable (s : State)

@[simp] theorem State.mov_eq (dst src : Operand) :
    s.mov dst src = (s.writeOperand dst (s.readOperand src)).advance 1 := rfl
@[simp] theorem State.mvi_eq (dst : Operand) (d8 : Byte) : s.mvi dst d8 = (s.writeOperand dst d8).advance 2 := rfl
@[simp] theorem State.lxi_eq (p : Pair) (d16 : Word) : s.lxi p d16 = (s.writePair p d16).advance 3 := rfl
@[simp] theorem State.loadA_eq (adr len : Word) : s.loadA adr len = (s.setReg .a (s.readByte adr)).advance len := rfl
@[simp] theorem State.storeA_eq (adr len : Word) : s.storeA adr len = (s.writeByte adr s.regs.a).advance len := rfl
@[simp] theorem State.shld_eq (adr : Word) : s.shld adr = (s.writeWord adr s.regs.hl).advance 3 := rfl
@[simp] theorem State.lhld_eq (adr : Word) : s.lhld adr = (s.writePair .hl (s.readWord adr)).advance 3 := rfl
@[simp] theorem State.inx_eq (p : Pair) : s.inx p = (s.writePair p (s.readPair p + 1)).advance 1 := rfl
@[simp] theorem State.dcx_eq (p : Pair) : s.dcx p = (s.writePair p (s.readPair p - 1)).advance 1 := rfl
@[simp] theorem State.rlc_eq :
    s.rlc = s.rotate (s.regs.a.extractLsb' 0 7 ++ s.regs.a.extractLsb' 7 1) (s.regs.a.getLsbD 7) := rfl
@[simp] theorem State.rrc_eq :
    s.rrc = s.rotate (s.regs.a.extractLsb' 0 1 ++ s.regs.a.extractLsb' 1 7) (s.regs.a.getLsbD 0) := rfl
@[simp] theorem State.ral_eq :
    s.ral = s.rotate (s.regs.a.extractLsb' 0 7 ++ bit1 s.flags.cy) (s.regs.a.getLsbD 7) := rfl
@[simp] theorem State.rar_eq :
    s.rar = s.rotate (bit1 s.flags.cy ++ s.regs.a.extractLsb' 1 7) (s.regs.a.getLsbD 0) := rfl
@[simp] theorem State.cma_eq : s.cma = (s.setReg .a (~~~s.regs.a)).advance 1 := rfl
@[simp] theorem State.rst_eq (n : BitVec 3) : s.rst n = s.callTo (s.next 1) (rstTarget n) := rfl
@[simp] theorem State.pushPair_eq (p : StackPair) :
    s.pushPair p = (s.push16 (s.readPair (stackPair p))).advance 1 := rfl
@[simp] theorem State.popPair_eq (p : StackPair) :
    s.popPair p = (s.pop16.writePair (stackPair p) s.stackTop).advance 1 := rfl
@[simp] theorem State.pushStatus_eq : s.pushStatus = (s.push16 (cat s.regs.a s.flags.toByte)).advance 1 := rfl
@[simp] theorem State.exchangeTop_eq :
    s.exchangeTop = ((s.writeWord s.sp s.regs.hl).writePair .hl (s.readWord s.sp)).advance 1 := rfl
@[simp] theorem State.jumpIf_eq (cond : Cond) (adr : Word) :
    s.jumpIf cond adr = if s.flags.cond cond then s.jumpTo adr else s.advance 3 := rfl
@[simp] theorem State.callIf_eq (cond : Cond) (adr : Word) :
    s.callIf cond adr = if s.flags.cond cond then s.callTo (s.next 3) adr else s.advance 3 := rfl
@[simp] theorem State.retIf_eq (cond : Cond) :
    s.retIf cond = if s.flags.cond cond then s.returnTo else s.advance 1 := rfl

/-- A pair written keeps `sp` unless the pair is `sp` (40_step.md R104). -/
theorem State.writePair_sp_of_ne {p : Pair} (v : Word) (ne : p ≠ .sp) : (s.writePair p v).sp = s.sp := by
  cases p with
  | sp => exact absurd rfl ne
  | _ => rfl

theorem stackPair_ne_sp (p : StackPair) : stackPair p ≠ .sp := by
  cases p <;> simp [stackPair]

/-! ## The parts of the state -/

/-- No instruction sets the fault record (60_exceptions.md R281). -/
@[simp] theorem effect_fault (f : Form) : (effect s f).fault = s.fault := by
  cases f <;> simp [effect, apply_ite State.fault]

/-- Only HLT writes the run flag (10_state.md R32). -/
theorem effect_run {f : Form} (ne : f ≠ .hlt) : (effect s f).run = s.run := by
  cases f with
  | hlt => exact absurd rfl ne
  | _ => simp [effect, apply_ite State.run]

/-- Only IN draws an input (46_nop_io_int.md R270). -/
theorem effect_ioCount {f : Form} (ne : ∀ d8, f ≠ .inPort d8) : (effect s f).ioCount = s.ioCount := by
  cases f with
  | inPort d8 => exact absurd rfl (ne d8)
  | _ => simp [effect, apply_ite State.ioCount]

/-- Only OUT records an event (46_nop_io_int.md R271). -/
theorem effect_outEvents {f : Form} (ne : ∀ d8, f ≠ .outPort d8) : (effect s f).outEvents = s.outEvents := by
  cases f with
  | outPort d8 => exact absurd rfl (ne d8)
  | _ => simp [effect, apply_ite State.outEvents]

/-- The families that do not store leave memory (20_memory.md R54). -/
theorem effect_mem {f : Form} (reads : writesMemory f = false) : (effect s f).mem = s.mem := by
  cases f with
  | inr o => cases o with | m => cases reads | reg r => simp [effect]
  | dcr o => cases o with | m => cases reads | reg r => simp [effect]
  | mvi o d8 => cases o with | m => cases reads | reg r => simp [effect]
  | movMR _ | sta _ | stax _ | shld _ | call _ | callIf _ _ | rst _ | push _ | pushPsw | xthl => cases reads
  | _ => simp [effect, apply_ite State.mem]

theorem State.writeOperand_wf {s : State} (o : Operand) (v : Byte) (wf : Memory.wf s.mem = true) :
    Memory.wf (s.writeOperand o v).mem = true := by
  cases o with
  | reg r => exact wf
  | m => exact s.writeByte_wf _ v wf

/-- Every instruction keeps the canonical form of memory: what stores does so by `Memory.write`. -/
theorem effect_wf {s : State} (f : Form) (wf : Memory.wf s.mem = true) : Memory.wf (effect s f).mem = true := by
  cases stores : writesMemory f with
  | false => rwa [effect_mem s stores]
  | true =>
    cases f with
    | inr o => rw [effect, State.inr_mem]; exact State.writeOperand_wf o _ wf
    | dcr o => rw [effect, State.dcr_mem]; exact State.writeOperand_wf o _ wf
    | mvi o d8 => exact State.writeOperand_wf o d8 wf
    | movMR _ | sta _ | stax _ => exact s.writeByte_wf _ _ wf
    | shld _ | xthl => exact s.writeWord_wf _ _ wf
    | call _ | rst _ | push _ | pushPsw => exact s.push16_wf _ wf
    | callIf cond adr =>
      rw [effect, State.callIf_eq, apply_ite State.mem]
      split
      · exact s.push16_wf _ wf
      · exact wf
    | _ => cases stores

/-- The flag table: what a family does not declare it leaves (10_state.md R29). -/
theorem effect_flags (f : Form) :
    (writesZSP f = false → (effect s f).flags.z = s.flags.z ∧ (effect s f).flags.s = s.flags.s ∧
        (effect s f).flags.p = s.flags.p) ∧
      (writesCY f = false → (effect s f).flags.cy = s.flags.cy) ∧
      (writesAC f = false → (effect s f).flags.ac = s.flags.ac) := by
  cases f <;> simp [effect, writesZSP, writesCY, writesAC, apply_ite State.flags]

/-- `sp` moves as the stack instructions declare, or it is written as a register (10_state.md R27). -/
theorem effect_sp {f : Form} (declared : writesSP f = false) : ∃ d ∈ stackMoves f, (effect s f).sp = s.sp + d := by
  cases f with
  | lxi p d16 => cases p with | sp => cases declared | _ => exact ⟨0, .head _, by simp [effect]⟩
  | inx p => cases p with | sp => cases declared | _ => exact ⟨0, .head _, by simp [effect]⟩
  | dcx p => cases p with | sp => cases declared | _ => exact ⟨0, .head _, by simp [effect]⟩
  | sphl => cases declared
  | push _ | pushPsw | call _ | rst _ =>
    exact ⟨-2, .head _, by simp [effect, BitVec.sub_eq_add_neg]⟩
  | pop p => exact ⟨2, .head _, by simp [effect, State.writePair_sp_of_ne, stackPair_ne_sp]⟩
  | popPsw | ret => exact ⟨2, .head _, by simp [effect]⟩
  | callIf cond adr =>
    by_cases taken : s.flags.cond cond
    · exact ⟨-2, .tail _ (.head _), by simp [effect, taken, BitVec.sub_eq_add_neg]⟩
    · exact ⟨0, .head _, by simp [effect, taken]⟩
  | retIf cond =>
    by_cases taken : s.flags.cond cond
    · exact ⟨2, .tail _ (.head _), by simp [effect, taken]⟩
    · exact ⟨0, .head _, by simp [effect, taken]⟩
  | jumpIf cond adr => exact ⟨0, .head _, by simp [effect, apply_ite State.sp]⟩
  | _ => exact ⟨0, .head _, by simp [effect]⟩

end Sys2Proof.Machine
end

section
/-! The whole machine: the invariant at creation, under every step and every history (60_exceptions.md R281 to R286, R295), and
what no instruction touches (10_state.md R27, R29, R32; 20_memory.md R54). -/

namespace Sys2Proof.Machine

/-! ## The invariant -/

/-- One instruction keeps the invariant of an unfaulted machine: it raises nothing and keeps memory canonical. -/
theorem effect_sound {s : State} (f : Form) (unfaulted : s.fault = none) (sound : Sound s) : Sound (effect s f) := by
  rw [sound_iff_of_unfaulted unfaulted] at sound
  rw [sound_iff_of_unfaulted ((effect_fault s f).trans unfaulted)]
  exact effect_wf f sound

/-- Settles O19: an idle step changes nothing, a raise records the Tier G byte at `pc`, and an instruction keeps memory
canonical and raises nothing. -/
theorem stepKeepsSound : Obligations.StepKeepsSound := by
  intro mode s t sound next
  obtain ⟨unfaulted, ⟨-, rfl⟩ | ⟨-, -, unsourced, rfl⟩ | ⟨-, i, -, rfl⟩⟩ := stepIn_cases next
  · exact ⟨sound, fun r recorded => by simp [unfaulted] at recorded⟩
  · refine ⟨(sound_iff_of_faulted rfl).2 unsourced, fun r recorded => ?_⟩
    cases recorded
    exact ⟨rfl, rfl⟩
  · exact ⟨effect_sound i.form unfaulted sound, fun r recorded => by simp [unfaulted] at recorded⟩

/-- The driver never writes the fault record (60_exceptions.md R297). -/
@[simp] theorem State.drive_fault (s : State) (move : DriverMove) : (s.drive move).fault = s.fault := by
  unfold State.drive
  split <;> rfl

/-- The driver never writes memory (60_exceptions.md R297). -/
@[simp] theorem State.drive_mem (s : State) (move : DriverMove) : (s.drive move).mem = s.mem := by
  unfold State.drive
  split <;> rfl

/-- The invariant reads nothing that the driver writes. -/
theorem drive_sound {s : State} (move : DriverMove) (sound : Sound s) : Sound (s.drive move) := by
  cases recorded : s.fault with
  | some r => rwa [State.drive_faulted s r recorded]
  | none =>
    rw [sound_iff_of_unfaulted recorded] at sound
    rwa [sound_iff_of_unfaulted (by rw [State.drive_fault, recorded]), State.drive_mem]

/-- The only machine that a creation gives (70_reset_and_hazards.md R310 to R313). -/
theorem create_eq_ok {spReset : Word} {image : List Byte} (fits : image.length ≤ 65536) :
    State.create spReset image = .ok { State.reset with sp := spReset, mem := Memory.load 0 image } :=
  if_pos fits

/-- A longer image is refused (70_reset_and_hazards.md R313). -/
theorem create_eq_error {spReset : Word} {image : List Byte} (long : 65536 < image.length) :
    State.create spReset image = .error (.imageTooLong image.length) :=
  if_neg (Nat.not_le.2 long)

theorem create_sound {spReset : Word} {image : List Byte} {s : State} (created : State.create spReset image = .ok s) :
    Sound s := by
  obtain long | fits := Nat.lt_or_ge 65536 image.length
  · rw [create_eq_error long] at created
    cases created
  · rw [create_eq_ok fits] at created
    cases created
    exact (sound_iff_of_unfaulted rfl).2 (Memory.wfFrom_load image 0 (by omega))

/-- Settles O20: reset has the empty memory, a created machine that of its image, and the driver leaves both parts that the
invariant reads. -/
theorem soundAtCreationAndUnderDriver : Obligations.SoundAtCreationAndUnderDriver :=
  ⟨(sound_iff_of_unfaulted rfl).2 State.reset_mem_wf, fun _ _ _ => create_sound, fun _ move => drive_sound move⟩

/-- Settles O21: the induction over the history, with the step and the driver's move as its two cases. -/
theorem historiesKeepSound : Obligations.HistoriesKeepSound :=
  fun mode events s t => history_keeps events (fun s t sound next => (stepKeepsSound mode s t sound next).1)
    (fun _ move _ => drive_sound move) s t

/-! ## Progress -/

/-- In mode `execute` an enabled machine executes what it fetches. -/
theorem step_enabled {s : State} (enabled : Enabled s) : ∃ i : Instr, step s = .next (effect s i.form) := by
  obtain ⟨i, fetched⟩ := decode_fetchBytes s
  exact ⟨i, stepIn_of_decode (mode := .execute) enabled rfl fetched⟩

/-- Settles O9: an idle step answers the same state, and no instruction sets the fault record. -/
theorem executeModeNeverStops : Obligations.ExecuteModeNeverStops := by
  intro s unfaulted
  cases running : s.run with
  | false => exact ⟨s, stepIn_idle _ s unfaulted running, unfaulted⟩
  | true =>
    obtain ⟨i, next⟩ := step_enabled ⟨running, unfaulted⟩
    exact ⟨_, next, (effect_fault s i.form).trans unfaulted⟩

/-! ## The run flag -/

/-- The bytes fetched begin with the opcode (40_step.md R100). -/
theorem State.fetchBytes_head? (s : State) : s.fetchBytes.head? = some s.opcode := by
  obtain ⟨sh, row⟩ := shapeOf_isSome s.opcode
  rw [State.fetchBytes, opLength_of_shape row 0, List.range_succ_eq_map]
  simp [State.opcode]

/-- HLT is fetched from the byte 0x76 only (30_encoding.md section 7). -/
theorem opcode_of_fetched_hlt {s : State} {i : Instr} (fetched : decode s.fetchBytes = .ok (i, [])) (hlt : i.form = .hlt) :
    s.opcode = 0x76#8 := by
  have bytes : s.fetchBytes = [0x76#8] := by
    rw [encodeOfDecodeIsBytes _ _ _ fetched, encode, hlt]
    rfl
  have head := s.fetchBytes_head?
  rw [bytes] at head
  exact (Option.some.inj head).symm

/-- A step from a running machine that clears the run flag without a raise is HLT (44_control_flow.md R240). -/
theorem opcode_of_run_cleared {mode : UnsourcedMode} {s t : State} (next : stepIn mode s = .next t) (running : s.run = true)
    (halted : Halted t) : s.opcode = 0x76#8 := by
  obtain ⟨stopped, unfaulted⟩ := halted
  obtain ⟨-, ⟨-, rfl⟩ | ⟨-, -, -, rfl⟩ | ⟨-, i, fetched, rfl⟩⟩ := stepIn_cases next
  · simp [running] at stopped
  · simp at unfaulted
  · refine opcode_of_fetched_hlt fetched (by_contra fun ne => ?_)
    simp [effect_run s ne, running] at stopped

/-- No step sets the run flag (10_state.md R32). -/
theorem run_of_stepIn {mode : UnsourcedMode} {s t : State} (next : stepIn mode s = .next t) (running : t.run = true) :
    s.run = true := by
  obtain ⟨-, ⟨-, rfl⟩ | ⟨h, -⟩ | ⟨h, -⟩⟩ := stepIn_cases next
  exacts [running, h, h]

/-- Settles O22: only HLT writes the run flag, and it is fetched from its own byte only. -/
theorem runFlagFallsOnlyAtHlt : Obligations.RunFlagFallsOnlyAtHlt :=
  fun _ _ _ next unfaulted =>
    ⟨run_of_stepIn next, fun running stopped => opcode_of_run_cleared next running ⟨stopped, unfaulted⟩⟩

/-! ## The frames -/

/-- Settles O23: the flag table of the families' effects. -/
theorem undeclaredFlagsAreKept : Obligations.UndeclaredFlagsAreKept := by
  intro i s t next
  obtain rfl := (exec_next_iff i s t).1 next
  exact effect_flags s i.form

/-- Settles O24: the moves of `sp` of the families' effects. -/
theorem stackPointerMovesOnlyAsDeclared : Obligations.StackPointerMovesOnlyAsDeclared := by
  intro i s t next declared
  obtain rfl := (exec_next_iff i s t).1 next
  exact effect_sp s declared

/-- Settles O25: the effect of a family that does not store has the same memory. -/
theorem onlyStoresWriteMemory : Obligations.OnlyStoresWriteMemory := by
  intro i s t next reads
  obtain rfl := (exec_next_iff i s t).1 next
  exact sameMemory_of_mem _ _ (effect_mem s reads)

/-- The family of an instruction is a given one only if the instruction is that family's. -/
theorem form_ne {i : Instr} {f : Form} (ne : i ≠ f.instr) : i.form ≠ f :=
  fun h => ne (by rw [← h, instr_form])

/-- Settles O26: the counter of IN and the trace of OUT belong to one family each. -/
theorem onlyPortInstructionsTouchPorts : Obligations.OnlyPortInstructionsTouchPorts := by
  intro i s t next
  obtain rfl := (exec_next_iff i s t).1 next
  exact ⟨effect_fault s i.form, fun ne => effect_ioCount s fun d8 => form_ne (ne d8),
    fun ne => effect_outEvents s fun d8 => form_ne (ne d8)⟩

end Sys2Proof.Machine
end

section
/-! Reset, creation and the driver (70_reset_and_hazards.md R310 to R313; 60_exceptions.md R297), and memory after any writes
(20_memory.md R51, R60 and section 6). -/

namespace Sys2Proof.Machine

/-! ## The image -/

/-- The first byte of a loaded image, and the rest of it (10_state.md R45). -/
theorem Memory.read_load_cons {at_ : Nat} {v : Byte} {image : List Byte} (fits : at_ + 1 + image.length ≤ 65536) (a : Nat) :
    (Memory.load at_ (v :: image)).read a = if a = at_ then v else (Memory.load (at_ + 1) image).read a := by
  have below := Memory.read_below (Memory.wfFrom_load image (at_ + 1) fits) at_.lt_succ_self
  rw [Memory.load]
  split
  · rename_i unlisted
    split
    · rename_i first
      rw [first, below, unlisted]
    · rfl
  · simp only [Memory.read, eq_comm]

/-- A loaded image is read back from its first address on (10_state.md R45). -/
theorem Memory.read_load {image : List Byte} {at_ : Nat} (fits : at_ + image.length ≤ 65536) (k : Nat) :
    (Memory.load at_ image).read (at_ + k) = image.getD k 0 := by
  induction image generalizing at_ k with
  | nil => rfl
  | cons v image ih =>
    rw [List.length_cons, Nat.add_comm _ 1, ← Nat.add_assoc] at fits
    rw [Memory.read_load_cons fits]
    cases k with
    | zero => simp
    | succ k => rw [if_neg (by omega), ← Nat.add_assoc, Nat.add_right_comm, ih fits, List.getD_cons_succ]

/-- Settles O13: the fields of the reset state, and the empty memory lists no address. -/
theorem resetDecidedValues : Obligations.ResetDecidedValues :=
  ⟨rfl, rfl, State.reset_fault, rfl, fun a => Memory.read_nil a.toNat⟩

/-- Settles O14: the created machine is the reset one but for `sp` and the image, which is read back. -/
theorem createdMachineHoldsImage : Obligations.CreatedMachineHoldsImage := by
  refine fun spReset image fits => ⟨_, create_eq_ok fits, fun a => ?_, rfl, rfl, rfl, rfl, rfl, rfl⟩
  rw [State.readByte, ← Nat.zero_add a.toNat, Memory.read_load (by omega), Nat.zero_add]

/-- Settles O15: the creation tests the length and nothing else. -/
theorem longImageIsRefused : Obligations.LongImageIsRefused :=
  fun _ _ long => create_eq_error long

/-- Settles O16: a move writes `run` where no fault is recorded and nothing where one is. -/
theorem driverWritesOnlyRun : Obligations.DriverWritesOnlyRun := by
  refine fun s => ⟨fun unfaulted => ⟨s.drive_resume unfaulted, s.drive_pause unfaulted⟩, fun faulted move => ?_⟩
  obtain ⟨r, recorded⟩ := Option.ne_none_iff_exists'.1 faulted
  exact s.drive_faulted r recorded move

/-! ## Reads after writes -/

/-- Settles O17: induction over the writes; the first write is the last candidate, behind all later ones. -/
theorem readReturnsLastWrite : Obligations.ReadReturnsLastWrite := by
  intro s writes a wf
  induction writes generalizing s with
  | nil => rfl
  | cons w writes ih =>
    rw [List.foldl_cons, ih _ (s.writeByte_wf _ _ wf), List.reverse_cons, List.find?_append,
      readByte_writeByte _ _ _ _ wf]
    cases later : writes.reverse.find? fun w => w.1 == a with
    | some u => simp
    | none =>
      by_cases hit : a = w.1
      · simp [hit]
      · simp [hit, Ne.symm hit]

/-- Settles O18: the two stores of a 16-bit write, and the read that puts its two bytes together again. -/
theorem wordAccessIsLittleEndian : Obligations.WordAccessIsLittleEndian := by
  intro s a v wf
  obtain ⟨low, high, elsewhere⟩ := storesWord s (s.writeWord a v) a v wf rfl
  refine ⟨low.trans (lo_eq_lowHalf v), high.trans (hi_eq_highHalf v), elsewhere, ?_, cat_eq_pairOf _ _⟩
  rw [State.readWord, low, high, cat_hi_lo]

end Sys2Proof.Machine
end

section
/-! The run (60_exceptions.md R300): it ends exactly at a step that executes HLT, and looking later does not change it. -/

namespace Sys2Proof.Machine

/-- An enabled machine steps in either mode: it raises or executes what it fetches (40_step.md R100). -/
theorem exists_stepIn_next (mode : UnsourcedMode) {s : State} (enabled : Enabled s) : ∃ t, stepIn mode s = .next t := by
  obtain ⟨i, fetched⟩ := decode_fetchBytes s
  cases raises : raisesIn mode s.opcode with
  | false => exact ⟨_, stepIn_of_decode enabled raises fetched⟩
  | true => exact ⟨_, by rw [stepIn_enabled _ _ enabled.2 enabled.1, State.executeOne, if_pos raises]⟩

/-- The state that a run ends in is halted (60_exceptions.md R300). -/
theorem EndsRun.halted {mode : UnsourcedMode} {s t : State} (ends : EndsRun mode s t) : Halted t := by
  obtain ⟨-, -, -, halted, -⟩ := ends
  exact halted

/-- A step has one answer, so the run ends in what the step leaves. -/
theorem EndsRun.eq_of_stepIn {mode : UnsourcedMode} {s t u : State} (ends : EndsRun mode s t)
    (next : stepIn mode s = .next u) : u = t := by
  obtain ⟨-, -, next', -, -⟩ := ends
  rw [next] at next'
  injection next'

/-- What a step of an enabled machine leaves: an enabled machine, the end of the run, or a faulted machine. -/
theorem stepIn_enabled_cases (mode : UnsourcedMode) {s : State} (enabled : Enabled s) :
    ∃ t, stepIn mode s = .next t ∧ (Enabled t ∨ EndsRun mode s t ∨ ∃ r, t.fault = some r) := by
  obtain ⟨t, next⟩ := exists_stepIn_next mode enabled
  refine ⟨t, next, ?_⟩
  cases recorded : t.fault with
  | some r => exact .inr (.inr ⟨r, rfl⟩)
  | none =>
    cases running : t.run with
    | true => exact .inl ⟨running, recorded⟩
    | false =>
      have hlt := opcode_of_run_cleared next enabled.1 ⟨running, recorded⟩
      rw [stepIn_opcode_76 mode enabled hlt] at next
      cases next
      exact .inr (.inl (endsRun_halt mode enabled hlt))

/-- A machine that is not enabled stays so under steps. -/
theorem not_enabled_of_steps {mode : UnsourcedMode} {k : Nat} {s t : State} (stopped : ¬ Enabled s)
    (reached : s.history mode (List.replicate k .step) = .next t) : ¬ Enabled t := by
  refine history_steps_keep (P := fun s => ¬ Enabled s) (fun s t stopped next enabled => stopped ?_) k s t stopped reached
  obtain ⟨unfaulted, -⟩ := stepIn_cases next
  exact ⟨run_of_stepIn next enabled.1, unfaulted⟩

/-- `t` ends the run of `s` at one of the next `n` steps, with no move of the driver before it. -/
def EndsWithin (mode : UnsourcedMode) (n : Nat) (s t : State) : Prop :=
  ∃ k u, k < n ∧ s.history mode (List.replicate k .step) = .next u ∧ EndsRun mode u t

/-- The run of `s` ends at its first step or ends the run of what that step leaves. -/
theorem endsWithin_succ_iff {mode : UnsourcedMode} {n : Nat} {s u t : State} (next : stepIn mode s = .next u) :
    EndsWithin mode (n + 1) s t ↔ EndsRun mode s t ∨ EndsWithin mode n u t := by
  have steps (k : Nat) : s.history mode (List.replicate (k + 1) .step) = u.history mode (List.replicate k .step) :=
    history_cons_next _ next
  constructor
  · rintro ⟨_ | k, v, lt, reached, ends⟩
    · cases reached
      exact .inl ends
    · rw [steps] at reached
      exact .inr ⟨k, v, Nat.lt_of_succ_lt_succ lt, reached, ends⟩
  · rintro (ends | ⟨k, v, lt, reached, ends⟩)
    · exact ⟨0, s, Nat.succ_pos n, rfl, ends⟩
    · exact ⟨k + 1, v, Nat.succ_lt_succ lt, (steps k).trans reached, ends⟩

/-- What is not enabled executes no HLT any more. -/
theorem not_endsWithin {mode : UnsourcedMode} {n : Nat} {s t : State} (stopped : ¬ Enabled s) :
    ¬ EndsWithin mode n s t := by
  rintro ⟨k, u, -, reached, ends⟩
  exact not_enabled_of_steps stopped reached ends.1

/-- `runFor` finds the end: induction on the bound, by what the next step leaves. -/
theorem runFor_ended_iff {mode : UnsourcedMode} {n : Nat} {s t : State} (enabled : Enabled s) :
    s.runFor mode n = .ended t ↔ EndsWithin mode n s t := by
  induction n generalizing s with
  | zero =>
    rw [runFor_zero]
    exact ⟨fun h => (by cases h), fun ⟨k, _, lt, _⟩ => absurd lt k.not_lt_zero⟩
  | succ n ih =>
    obtain ⟨u, next, left⟩ := stepIn_enabled_cases mode enabled
    rw [endsWithin_succ_iff next]
    obtain running | ends | ⟨r, recorded⟩ := left
    · rw [runFor_continues n enabled.1 next running, ih running]
      refine ⟨.inr, fun h => h.resolve_left fun ends => ?_⟩
      obtain rfl := ends.eq_of_stepIn next
      exact ends.halted.not_enabled running
    · rw [runFor_ends n enabled.1 next ends.halted]
      constructor
      · intro ended
        cases ended
        exact .inl ends
      · rintro (ends' | later)
        · rw [ends'.eq_of_stepIn next]
        · exact absurd later (not_endsWithin ends.halted.not_enabled)
    · rw [runFor_raises n enabled.1 next recorded]
      refine ⟨fun ended => (by cases ended), ?_⟩
      rintro (ends | later)
      · obtain rfl := ends.eq_of_stepIn next
        simp [ends.halted.2] at recorded
      · exact absurd later (not_endsWithin fun enabled => by simp [enabled.2] at recorded)

/-- Once the run has ended or faulted, a larger bound gives the same answer. -/
theorem runFor_stable {mode : UnsourcedMode} {n m : Nat} {s : State} (enabled : Enabled s) (le : n ≤ m)
    (finished : ∀ u, s.runFor mode n ≠ .unfinished u) : s.runFor mode m = s.runFor mode n := by
  induction n generalizing s m with
  | zero => exact absurd (runFor_zero mode s) (finished s)
  | succ n ih =>
    obtain _ | m := m
    · omega
    obtain ⟨u, next, running | ends | ⟨r, recorded⟩⟩ := stepIn_enabled_cases mode enabled
    · simp only [runFor_continues _ enabled.1 next running] at finished ⊢
      exact ih running (by omega) finished
    · simp only [runFor_ends _ enabled.1 next ends.halted]
    · simp only [runFor_raises _ enabled.1 next recorded]

/-- Two looks at one run agree once both have a final answer. -/
theorem runFor_unique {mode : UnsourcedMode} {n m : Nat} {s : State} (enabled : Enabled s)
    (first : ∀ u, s.runFor mode n ≠ .unfinished u) (second : ∀ u, s.runFor mode m ≠ .unfinished u) :
    s.runFor mode n = s.runFor mode m := by
  obtain le | le := Nat.le_total n m
  · exact (runFor_stable enabled le first).symm
  · exact runFor_stable enabled le second

/-- A run is that of its launched machine, if there is one (70_reset_and_hazards.md R313). -/
theorem runOf_eq_ok_iff {mode : UnsourcedMode} {spReset : Word} {image : List Byte} {n : Nat} {o : RunOutcome} :
    runOf mode spReset image n = .ok o ↔ ∃ s, State.launch spReset image = .ok s ∧ s.runFor mode n = o := by
  unfold runOf
  cases State.launch spReset image with
  | ok s => simp
  | error r => simp

/-- Looks at a launch's run agree once both have a final answer. -/
theorem runOf_unique {mode : UnsourcedMode} {spReset : Word} {image : List Byte} {n m : Nat} {o o' : RunOutcome}
    (first : runOf mode spReset image n = .ok o) (second : runOf mode spReset image m = .ok o')
    (final : ∀ u, o ≠ .unfinished u) (final' : ∀ u, o' ≠ .unfinished u) : o = o' := by
  obtain ⟨s, launched, rfl⟩ := runOf_eq_ok_iff.1 first
  obtain ⟨s', launched', rfl⟩ := runOf_eq_ok_iff.1 second
  obtain rfl : s = s' := Except.ok.inj (launched.symm.trans launched')
  exact runFor_unique (launch_enabled launched) final final'

/-- Settles O60: the launched machine is enabled, so its run ends where `runFor_ended_iff` says, and two looks with a final
answer, an end or a fault, agree. -/
theorem runEndsExactlyAtHaltStep : Obligations.RunEndsExactlyAtHaltStep := by
  refine fun mode spReset image => ⟨fun n t => ?_, fun n m t u first second => ?_, fun n m r t first second => ?_⟩
  · rw [runOf_eq_ok_iff]
    constructor
    · rintro ⟨s, launched, ended⟩
      obtain ⟨k, u, ends⟩ := (runFor_ended_iff (launch_enabled launched)).1 ended
      exact ⟨s, k, u, launched, ends⟩
    · rintro ⟨s, k, u, launched, ends⟩
      exact ⟨s, launched, (runFor_ended_iff (launch_enabled launched)).2 ⟨k, u, ends⟩⟩
  · have same := runOf_unique first second (by simp) (by simp)
    injection same
  · have same := runOf_unique first second (by simp) (by simp)
    cases same

end Sys2Proof.Machine
end

section
/-! The other 8-bit ALU instructions (41_alu8.md R124 to R147): subtraction, logic and compare through what the ALU computes of A
and the operand, and the counts of a register or of `M`. -/

namespace Sys2Proof.Machine

/-! ## Subtraction, logic, compare -/

/-- All ALU instructions but the compares leave in A what the ALU computes, with its flags (41_alu8.md R120 to R133). -/
theorem State.alu_result {s : State} {op : AluOp} {src : AluSrc} {r : AluOut}
    (out : aluOut op s.regs.a (sourceByte s src) s.flags.cy = r) (ne : op ≠ .cmp) :
    (s.alu op src).regs.a = r.res ∧ (s.alu op src).flags = s.flags.ofAlu r := by
  rw [State.alu_regs, State.alu_flags, readSrc_eq, out]
  cases op with
  | cmp => exact absurd rfl ne
  | _ => exact ⟨rfl, rfl⟩

/-- SUB and SBB are one subtraction: the borrow in is `CY` for SBB, none for SUB (41_alu8.md R124, R126). -/
theorem aluOut_subtraction (borrows : Bool) (x y : Byte) (cy : Bool) :
    aluOut (if borrows then .sbb else .sub) x y cy = sub8 x y (borrows && cy) := by
  cases borrows <;> rfl

/-- Settles O28: A and the flags are those of one `Sub8` whose borrow in is `CY` for the forms with borrow. -/
theorem subtractAndSubtractWithBorrow : Obligations.SubtractAndSubtractWithBorrow := by
  intro s src borrows x y bin
  have borrowIn : (borrows && s.flags.cy).toNat = bin := toNat_and_eq_ite _ _
  obtain ⟨a, flags⟩ := State.alu_result (src := src) (aluOut_subtraction borrows s.regs.a _ s.flags.cy)
    (by cases borrows <;> simp)
  refine ⟨_, exec_instr _ s, ?_, ?_, ?_, ?_, s.alu_frame _ src⟩ <;> simp only [effect, a, flags]
  · rw [sub8_res, borrowIn]
  · exact resultFlags_ofAlu _ _
  · rw [Flags.ofAlu_cy, sub8_cy, borrowIn]
  · rw [Flags.ofAlu_ac, sub8_ac, borrowIn]

/-- A logic operation leaves its result in A, `Z S P` of it, and clears `CY` and `AC` (40_step.md R109). -/
theorem State.alu_logic {s : State} {op : AluOp} {src : AluSrc} {res : Byte}
    (out : aluOut op s.regs.a (sourceByte s src) s.flags.cy = logic8 res) (ne : op ≠ .cmp) :
    (s.alu op src).regs.a = res ∧ ResultFlags (s.alu op src).regs.a (s.alu op src).flags ∧
      (s.alu op src).flags.cy = false ∧ (s.alu op src).flags.ac = false := by
  obtain ⟨a, flags⟩ := State.alu_result out ne
  rw [a, flags]
  exact ⟨rfl, resultFlags_ofAlu _ (logic8 res), rfl, rfl⟩

/-- Settles O29: each operation is the bitwise one of bit vectors, read bit by bit. -/
theorem logicOperations : Obligations.LogicOperations := by
  rintro s src op (rfl | rfl | rfl)
  · obtain ⟨a, zsp, cy, ac⟩ := State.alu_logic (s := s) (src := src) (op := .ana) rfl (by decide)
    exact ⟨_, exec_instr _ s, fun k _ => by rw [effect, a, BitVec.getLsbD_and], zsp, cy, ac, s.alu_frame _ src⟩
  · obtain ⟨a, zsp, cy, ac⟩ := State.alu_logic (s := s) (src := src) (op := .xra) rfl (by decide)
    exact ⟨_, exec_instr _ s, fun k _ => by rw [effect, a, BitVec.getLsbD_xor], zsp, cy, ac, s.alu_frame _ src⟩
  · obtain ⟨a, zsp, cy, ac⟩ := State.alu_logic (s := s) (src := src) (op := .ora) rfl (by decide)
    exact ⟨_, exec_instr _ s, fun k _ => by rw [effect, a, BitVec.getLsbD_or], zsp, cy, ac, s.alu_frame _ src⟩

/-- The result of a subtraction without borrow as the statements write it. -/
theorem sub8_res_eq_ofNat (x y : Byte) : (sub8 x y false).res = BitVec.ofNat 8 (x.toNat + 256 - y.toNat) :=
  BitVec.eq_of_toNat_eq (by rw [sub8_res, BitVec.toNat_ofNat, Bool.toNat_false, Nat.sub_zero])

/-- The difference is zero for equal bytes only. -/
theorem sub8_res_eq_zero_iff (x y : Byte) : (sub8 x y false).res.toNat = 0 ↔ x.toNat = y.toNat := by
  have := x.isLt
  have := y.isLt
  rw [sub8_res, Bool.toNat_false]
  omega

/-- Settles O30: the flags are those of the subtraction, whose result is dropped, so A and with it every register is kept. -/
theorem compareOperations : Obligations.CompareOperations := by
  intro s src x y
  have flags : (s.alu .cmp src).flags = s.flags.ofAlu (sub8 s.regs.a (sourceByte s src) false) := by
    rw [State.alu_flags, readSrc_eq, aluOut]
  have zsp := resultFlags_ofAlu s.flags (sub8 s.regs.a (sourceByte s src) false)
  obtain ⟨pc, -, sp, memory, control⟩ := s.alu_frame .cmp src
  refine ⟨_, exec_instr _ s, ?_, ?_, ?_, ?_, pc, s.alu_regs .cmp src, sp, memory, control⟩ <;>
    simp only [effect, flags]
  · rwa [← sub8_res_eq_ofNat]
  · rw [zsp.1, decide_eq_decide, sub8_res_eq_zero_iff]
  · rw [Flags.ofAlu_cy, sub8_cy, Bool.toNat_false, Nat.add_zero]
  · rw [Flags.ofAlu_ac, sub8_ac, Bool.toNat_false, Nat.add_zero]

/-! ## Counts -/

theorem increment_res (x : Byte) : (add8 x 1 false).res.toNat = (x.toNat + 1) % 256 := add8_res x 1 false

theorem increment_ac (x : Byte) : (add8 x 1 false).ac = decide (x.toNat % 16 = 15) := by
  rw [add8_ac, decide_eq_decide]
  show x.toNat % 16 + 1 + 0 > 15 ↔ x.toNat % 16 = 15
  omega

theorem decrement_res (x : Byte) : (sub8 x 1 false).res.toNat = (x.toNat + 255) % 256 := sub8_res x 1 false

theorem decrement_ac (x : Byte) : (sub8 x 1 false).ac = decide (x.toNat % 16 ≠ 0) := by
  rw [sub8_ac, decide_eq_decide]
  show x.toNat % 16 ≥ 1 + 0 ↔ x.toNat % 16 ≠ 0
  omega

/-- A count of an operand: INR and DCR are one operation on what the adder answers (41_alu8.md R144 to R147). -/
def State.count (s : State) (o : Operand) (r : AluOut) : State :=
  { s.writeOperand o r.res with flags := s.flags.ofCount r, pc := s.next 1 }

theorem State.inr_eq_count (s : State) (o : Operand) : s.inr o = s.count o (add8 (s.readOperand o) 1 false) := rfl

theorem State.dcr_eq_count (s : State) (o : Operand) : s.dcr o = s.count o (sub8 (s.readOperand o) 1 false) := rfl

/-- A count of a register writes it, `Z S P AC` and `pc`; `CY` and the rest are kept. The conclusion is in the order in which
`Obligations.CountRegister` lists it. -/
theorem State.count_reg (s : State) (q : Reg) {r : AluOut} {n : Nat} {ac : Bool} (res : r.res.toNat = n) (nibble : r.ac = ac) :
    let t := s.count (.reg q) r
    (t.regs.get q).toNat = n ∧ ResultFlags (t.regs.get q) t.flags ∧ t.flags.ac = ac ∧ t.flags.cy = s.flags.cy ∧
      t.pc = s.pc + 1 ∧ SameRegsBut q s t ∧ t.sp = s.sp ∧ SameMemory s t ∧ SameControl s t := by
  intro t
  have value : t.regs.get q = r.res := Regs.get_set_same _ q _
  rw [value]
  exact ⟨res, resultFlags_ofCount _ r, nibble, rfl, rfl, sameRegsBut_set _ _ q r.res rfl, rfl, sameMemory_of_mem _ _ rfl,
    rfl, rfl, rfl, rfl⟩

/-- A count of `M` stores at `HL` and writes `Z S P AC` and `pc`; `CY` and the rest are kept. The conclusion is in the order in
which `Obligations.CountMemory` lists it. -/
theorem State.count_m {s : State} (wf : Memory.wf s.mem = true) {r : AluOut} {n : Nat} {ac : Bool} (res : r.res.toNat = n)
    (nibble : r.ac = ac) :
    let t := s.count .m r
    (t.readByte (addressM s)).toNat = n ∧ ResultFlags (t.readByte (addressM s)) t.flags ∧ t.flags.ac = ac ∧
      t.flags.cy = s.flags.cy ∧ t.pc = s.pc + 1 ∧ t.regs = s.regs ∧ t.sp = s.sp ∧
      SameMemoryOutside [addressM s] s t ∧ SameControl s t := by
  intro t
  obtain ⟨stored, elsewhere⟩ := storesByte s t (addressM s) r.res wf (by rw [← hl_eq_addressM]; rfl)
  rw [stored]
  exact ⟨res, resultFlags_ofCount _ r, nibble, rfl, rfl, rfl, rfl, elsewhere, rfl, rfl, rfl, rfl⟩

/-- Settles O31: INR and DCR of a register are counts by what `Add8` and `Sub8` answer for one. -/
theorem countRegister : Obligations.CountRegister :=
  fun s r => ⟨⟨_, exec_instr _ s, s.count_reg r (increment_res _) (increment_ac _)⟩,
    _, exec_instr _ s, s.count_reg r (decrement_res _) (decrement_ac _)⟩

/-- Settles O32: the same counts of the byte at `HL`. -/
theorem countMemory : Obligations.CountMemory := by
  intro s wf
  rw [← readOperand_m_eq]
  exact ⟨⟨_, exec_eq .inrM s, State.count_m wf (increment_res _) (increment_ac _)⟩,
    _, exec_eq .dcrM s, State.count_m wf (decrement_res _) (decrement_ac _)⟩

end Sys2Proof.Machine
end

section
/-! Pair arithmetic, rotates and the carry (42_pair_rotate_flagops.md), and the pair transfers SHLD, LHLD and XCHG
(43_data_movement.md R190 to R192). -/

namespace Sys2Proof.Machine

/-! ## Pairs -/

/-- A pair written, `pc` advanced: what changes and what does not (40_step.md R104). -/
theorem pairWritten_advance (s : State) (p : Pair) (v len : Word) :
    let t := (s.writePair p v).advance len
    PairWritten s t v p ∧ t.flags = s.flags ∧ t.pc = s.pc + len ∧ SameMemory s t ∧ SameControl s t := by
  intro t
  exact ⟨pairWritten_of s t p v rfl rfl, s.writePair_flags p v, congrArg (· + len) (s.writePair_pc p v),
    sameMemory_of_mem s t (s.writePair_mem p v), s.writePair_run p v, s.writePair_fault p v, s.writePair_ioCount p v,
    s.writePair_outEvents p v⟩

/-- Settles O34: INX and DCX write the pair plus or minus one, which wraps as bit vectors do. -/
theorem countPair : Obligations.CountPair := by
  intro s p
  rw [← readPair_eq]
  refine ⟨⟨_, s.readPair p + 1, exec_instr _ s, ?_, pairWritten_advance s p _ 1⟩,
    _, s.readPair p - 1, exec_instr _ s, ?_, pairWritten_advance s p _ 1⟩
  · exact BitVec.toNat_add _ _
  · rw [BitVec.toNat_sub, Nat.add_comm]
    rfl

/-- Settles O35: HL takes the low 16 bits of the sum and `CY` its bit 16, which is set where the sum passes 65,535. -/
theorem addPair : Obligations.AddPair := by
  intro s p
  rw [← readPair_eq, ← readPair_eq]
  intro sum
  have carry : sum.testBit 16 = decide (sum > 65535) := by
    have := (s.readPair .hl).isLt
    have := (s.readPair p).isLt
    rw [Nat.testBit_eq_decide_div_mod_eq, decide_eq_decide]
    omega
  refine ⟨s.dad p, BitVec.ofNat 16 sum, exec_instr _ s, BitVec.toNat_ofNat _ _,
    pairWritten_of s _ .hl _ rfl rfl, ?_, rfl, sameMemory_of_mem _ _ rfl, rfl, rfl, rfl, rfl⟩
  rw [← carry]
  rfl

/-! ## Rotates and the carry -/

/-- What every rotate leaves besides A (42_pair_rotate_flagops.md R163 to R166). -/
theorem State.rotate_frame (s : State) (a : Byte) (cy : Bool) :
    (s.rotate a cy).flags = { s.flags with cy := cy } ∧ (s.rotate a cy).pc = s.pc + 1 ∧ SameRegsBut .a s (s.rotate a cy) ∧
      (s.rotate a cy).sp = s.sp ∧ SameMemory s (s.rotate a cy) ∧ SameControl s (s.rotate a cy) :=
  ⟨rfl, rfl, sameRegsBut_set _ _ .a a rfl, rfl, sameMemory_of_mem _ _ rfl, rfl, rfl, rfl, rfl⟩

/-- A byte shifted up by one place, `b` entering at the bottom: every bit moves up. -/
theorem getLsbD_shiftUp (x : Byte) (b : BitVec 1) (k : Nat) (lt : k < 7) :
    (x.extractLsb' 0 7 ++ b).getLsbD (k + 1) = x.getLsbD k :=
  BitVec.getLsbD_append.trans (by simp [lt])

theorem getLsbD_shiftUp_zero (x : Byte) (b : BitVec 1) : (x.extractLsb' 0 7 ++ b).getLsbD 0 = b.getLsbD 0 :=
  BitVec.getLsbD_append

/-- A byte shifted down by one place, `b` entering at the top: every bit moves down. -/
theorem getLsbD_shiftDown (x : Byte) (b : BitVec 1) (k : Nat) (lt : k < 7) :
    (b ++ x.extractLsb' 1 7).getLsbD k = x.getLsbD (k + 1) :=
  BitVec.getLsbD_append.trans (by simp [lt, Nat.add_comm])

theorem getLsbD_shiftDown_seven (x : Byte) (b : BitVec 1) : (b ++ x.extractLsb' 1 7).getLsbD 7 = b.getLsbD 0 :=
  BitVec.getLsbD_append

/-- Settles O36: the four rotates shift A by one place; they differ in the bit that enters. -/
theorem rotateAccumulator : Obligations.RotateAccumulator := by
  intro s Rotated
  refine ⟨⟨_, exec_eq .rlc s, s.rotate_frame _ _, ?_, getLsbD_shiftUp _ _⟩,
    ⟨_, exec_eq .rrc s, s.rotate_frame _ _, ?_, getLsbD_shiftDown _ _⟩,
    ⟨_, exec_eq .ral s, s.rotate_frame _ _, ?_, getLsbD_shiftUp _ _⟩,
    _, exec_eq .rar s, s.rotate_frame _ _, ?_, getLsbD_shiftDown _ _⟩
  · exact (getLsbD_shiftUp_zero _ _).trans (by simp)
  · exact (getLsbD_shiftDown_seven _ _).trans (by simp)
  · exact (getLsbD_shiftUp_zero _ _).trans (by simp [bit1])
  · exact (getLsbD_shiftDown_seven _ _).trans (by simp [bit1])

/-- Settles O37: the complement of A as arithmetic; CMC and STC write `CY` alone. -/
theorem complementAndCarry : Obligations.ComplementAndCarry := by
  refine fun s => ⟨⟨_, exec_eq .cma s, ?_⟩, exec_eq .cmc s, exec_eq .stc s⟩
  obtain ⟨taken, others, pc, flags, sp, memory, control⟩ := registerLoaded_setReg_advance s .a (~~~s.regs.a) 1
  exact ⟨(congrArg BitVec.toNat taken).trans BitVec.toNat_not, flags, pc, others, sp, memory, control⟩

/-! ## Pair transfers -/

/-- A pair in HL as its two registers. -/
theorem setHl_cat (r : Regs) (high low : Byte) : r.setHl (cat high low) = { r with h := high, l := low } := by
  rw [Regs.setHl, hi_cat, lo_cat]

/-- Settles O43: LHLD writes HL with the two bytes read, SHLD stores the two halves of HL, which are H and L. -/
theorem pairLoadAndStoreDirect : Obligations.PairLoadAndStoreDirect := by
  refine fun s adr => ⟨⟨s.lhld adr, exec_eq (.lhld adr) s, setHl_cat _ _ _, rfl, rfl, rfl, sameMemory_of_mem _ _ rfl,
    rfl, rfl, rfl, rfl⟩, fun wf => ⟨s.shld adr, exec_eq (.shld adr) s, ?_⟩⟩
  obtain ⟨low, high, elsewhere⟩ := storesWord s (s.shld adr) adr s.regs.hl wf rfl
  rw [Regs.hl, lo_cat] at low
  rw [Regs.hl, hi_cat] at high
  exact ⟨low, high, elsewhere, rfl, rfl, rfl, rfl, rfl, rfl, rfl, rfl⟩

/-- Settles O44: each pair takes the other's two registers. -/
theorem exchangePairs : Obligations.ExchangePairs := by
  refine fun s => ⟨s.xchg, exec_eq .xchg s, ?_, rfl, rfl, rfl, sameMemory_of_mem _ _ rfl, rfl, rfl, rfl, rfl⟩
  simp [Regs.setHl, Regs.setDe, Regs.hl, Regs.de]

end Sys2Proof.Machine
end

section
/-! Calls, returns and restarts (44_control_flow.md R219 to R237): the unconditional transfers, and the conditional ones as the
transfer or the advance. -/

namespace Sys2Proof.Machine

/-- What a call does: the return address pushed high byte first, `pc` the target (44_control_flow.md R219; 40_step.md R110). -/
theorem State.callTo_spec {s : State} (wf : Memory.wf s.mem = true) (next target : Word) :
    let t := s.callTo next target
    t.readByte (s.sp - 1) = highHalf next ∧ t.readByte (s.sp - 2) = lowHalf next ∧ t.sp = s.sp - 2 ∧ t.pc = target ∧
      SameMemoryOutside [s.sp - 1, s.sp - 2] s t ∧ t.regs = s.regs ∧ t.flags = s.flags ∧ SameControl s t := by
  intro t
  obtain ⟨high, low, elsewhere⟩ := pushes s t next wf rfl
  exact ⟨high.trans (hi_eq_highHalf next), low.trans (lo_eq_lowHalf next), rfl, rfl, elsewhere, rfl, rfl, rfl, rfl, rfl, rfl⟩

/-- What a return does: `pc` from the stack, low byte first (44_control_flow.md R228; 40_step.md R110). -/
theorem State.returnTo_eq (s : State) :
    s.returnTo = { s with pc := pairOf (s.readByte (s.sp + 1)) (s.readByte s.sp), sp := s.sp + 2 } := by
  rw [← cat_eq_pairOf]
  rfl

/-! ## The conditional forms -/

theorem exec_jumpIf_of_holds {s : State} {cond : Cond} (adr : Word) (holds : ConditionHolds s.flags cond) :
    exec (Form.jumpIf cond adr).instr s = .next { s with pc := adr } := by
  rw [exec_instr, effect, State.jumpIf_of_holds adr holds, State.jumpTo]

theorem exec_jumpIf_of_not_holds {s : State} {cond : Cond} (adr : Word) (fails : ¬ ConditionHolds s.flags cond) :
    exec (Form.jumpIf cond adr).instr s = .next { s with pc := s.pc + 3 } := by
  rw [exec_instr, effect, State.jumpIf_of_not_holds adr fails, State.advance]

/-- A conditional call whose condition holds is the call (44_control_flow.md R220). -/
theorem exec_callIf_of_holds {s : State} {cond : Cond} (adr : Word) (holds : ConditionHolds s.flags cond) :
    exec (Form.callIf cond adr).instr s = .next (s.callTo (s.pc + 3) adr) := by
  rw [exec_instr, effect, State.callIf_eq, if_pos ((cond_iff _ _).2 holds), State.next]

/-- A conditional call whose condition fails pushes nothing (44_control_flow.md R220). -/
theorem exec_callIf_of_not_holds {s : State} {cond : Cond} (adr : Word) (fails : ¬ ConditionHolds s.flags cond) :
    exec (Form.callIf cond adr).instr s = .next { s with pc := s.pc + 3 } := by
  rw [exec_instr, effect, State.callIf_eq, if_neg (fails ∘ (cond_iff _ _).1), State.advance]

/-- A conditional return whose condition holds is the return (44_control_flow.md R229). -/
theorem exec_retIf_of_holds {s : State} {cond : Cond} (holds : ConditionHolds s.flags cond) :
    exec (Form.retIf cond).instr s =
      .next { s with pc := pairOf (s.readByte (s.sp + 1)) (s.readByte s.sp), sp := s.sp + 2 } := by
  rw [exec_instr, effect, State.retIf_eq, if_pos ((cond_iff _ _).2 holds), State.returnTo_eq]

/-- A conditional return whose condition fails pops nothing (44_control_flow.md R229). -/
theorem exec_retIf_of_not_holds {s : State} {cond : Cond} (fails : ¬ ConditionHolds s.flags cond) :
    exec (Form.retIf cond).instr s = .next { s with pc := s.pc + 1 } := by
  rw [exec_instr, effect, State.retIf_eq, if_neg (fails ∘ (cond_iff _ _).1), State.advance]

/-! ## The statements -/

/-- Settles O46: CALL is the call, a conditional call is it or the advance by three; the operand bytes are the address. -/
theorem calls : Obligations.Calls := by
  intro adr
  rw [← operandBytes_eq]
  refine ⟨rfl, fun cond _ => encode_instr _, fun s wf => ?_⟩
  have called := State.callTo_spec wf (s.pc + 3) adr
  exact ⟨⟨_, exec_eq (.call adr) s, called⟩,
    fun cond _ => ⟨fun holds => ⟨_, exec_callIf_of_holds adr holds, called⟩, exec_callIf_of_not_holds adr⟩⟩

/-- Settles O47: RET is the return, a conditional return is it or the advance by one. -/
theorem returns : Obligations.Returns := by
  refine ⟨rfl, fun cond _ => encode_instr _, fun s => ⟨?_, fun cond _ => ⟨exec_retIf_of_holds, exec_retIf_of_not_holds⟩⟩⟩
  rw [← State.returnTo_eq]
  exact exec_eq .ret s

/-- Settles O48: the conditional forms do not ask which flag the condition reads. -/
theorem signConditionedTransfers : Obligations.SignConditionedTransfers :=
  fun s adr _ _ wf =>
    ⟨fun holds => ⟨exec_jumpIf_of_holds adr holds,
        ⟨_, exec_callIf_of_holds adr holds, State.callTo_spec wf (s.pc + 3) adr⟩, exec_retIf_of_holds holds⟩,
      fun fails => ⟨exec_jumpIf_of_not_holds adr fails, exec_callIf_of_not_holds adr fails,
        exec_retIf_of_not_holds fails⟩⟩

/-- The target of RST n as arithmetic (44_control_flow.md R237). -/
theorem toNat_rstTarget (n : Fin 8) : (rstTarget (BitVec.ofNat 3 n.val)).toNat = 8 * n.val := by
  revert n
  decide

/-- Settles O49: RST is the call of the next byte's address. -/
theorem restart : Obligations.Restart := by
  intro s n wf
  obtain ⟨high, low, sp, pc, rest⟩ := State.callTo_spec wf (s.pc + 1) (rstTarget (BitVec.ofNat 3 n.val))
  exact ⟨_, exec_instr _ s, (congrArg BitVec.toNat pc).trans (toNat_rstTarget n), sp, high, low, rest⟩

end Sys2Proof.Machine
end

section
/-! The stack instructions (45_stack.md R250 to R254), the round trips of the stack, and the instructions of
46_nop_io_int.md. -/

namespace Sys2Proof.Machine

/-- What a push and the advance past it do: the high byte at `sp - 1`, the low byte at `sp - 2` (40_step.md R110). -/
theorem State.push16_advance_spec {s : State} (wf : Memory.wf s.mem = true) (v : Word) :
    let t := (s.push16 v).advance 1
    t.readByte (s.sp - 1) = hi v ∧ t.readByte (s.sp - 2) = lo v ∧ t.sp = s.sp - 2 ∧ t.pc = s.pc + 1 ∧
      SameMemoryOutside [s.sp - 1, s.sp - 2] s t ∧ t.regs = s.regs ∧ t.flags = s.flags ∧ SameControl s t := by
  intro t
  obtain ⟨high, low, elsewhere⟩ := pushes s t v wf rfl
  exact ⟨high, low, rfl, rfl, elsewhere, rfl, rfl, rfl, rfl, rfl, rfl⟩

/-- The value that a pop returns, as arithmetic (40_step.md R110). -/
theorem State.stackTop_eq (s : State) : s.stackTop = pairOf (s.readByte (s.sp + 1)) (s.readByte s.sp) :=
  cat_eq_pairOf _ _

/-- A pop that gives back the `sp` of before the push. -/
theorem sub_two_add_two (a : Word) : a - 2 + 2 = a := BitVec.sub_add_cancel a 2

/-- What POP writes in `sp` (45_stack.md R251). -/
theorem State.popPair_sp (s : State) (p : StackPair) : (s.popPair p).sp = s.sp + 2 := by
  rw [State.popPair_eq, State.advance_sp, State.writePair_sp_of_ne _ _ (stackPair_ne_sp p), State.pop16_sp]

/-- A pair written with the value it held keeps the registers it held (40_step.md R104). -/
theorem State.writePair_readPair_regs {s t : State} (same : t.regs = s.regs) (p : Pair) :
    (t.writePair p (s.readPair p)).regs = s.regs := by
  cases p <;> simp [same, Regs.setBc, Regs.setDe, Regs.setHl, Regs.bc, Regs.de, Regs.hl]

/-- Settles O52: PUSH is the push of the pair's value, POP the pair written with what the pop returns. -/
theorem pushAndPopPair : Obligations.PushAndPopPair := by
  intro s p wf
  rw [← readPair_eq, ← hi_eq_highHalf, ← lo_eq_lowHalf, ← State.stackTop_eq]
  refine ⟨⟨_, exec_instr _ s, State.push16_advance_spec wf _⟩, _, exec_instr _ s, s.popPair_sp p, ?_⟩
  obtain ⟨written, flags, pc, memory, control⟩ := pairWritten_advance s.pop16 (stackPair p) s.stackTop 1
  exact ⟨pc, written, flags, memory, control⟩

/-- Settles O53: the pop returns the pair's own value. -/
theorem pushThenPopRestores : Obligations.PushThenPopRestores := by
  intro s t u p wf pushed popped
  obtain rfl : s.pushPair p = t := by simpa [exec_instr, effect] using pushed
  obtain rfl : (s.pushPair p).popPair p = u := by simpa [exec_instr, effect] using popped
  have top : (s.pushPair p).stackTop = s.readPair (stackPair p) := stackTop_of_push s _ _ wf rfl rfl
  refine ⟨?_, ?_, ?_⟩
  · rw [State.popPair_eq, top]
    exact State.writePair_readPair_regs (s := s) (t := (s.pushPair p).pop16) rfl (stackPair p)
  · rw [State.popPair_sp]
    exact sub_two_add_two s.sp
  · simp

/-- Settles O54: the return takes the pushed address back. -/
theorem callThenReturnResumes : Obligations.CallThenReturnResumes := by
  intro s t u adr wf called returned
  obtain rfl := (exec_next_iff _ s t).1 called
  obtain rfl := (exec_next_iff _ _ u).1 returned
  exact ⟨stackTop_of_push s (s.callTo (s.pc + 3) adr) (s.pc + 3) wf rfl rfl, sub_two_add_two s.sp⟩

/-- POP PSW right after PUSH PSW (45_stack.md R252, R253). -/
theorem State.popStatus_pushStatus {s : State} (wf : Memory.wf s.mem = true) :
    s.pushStatus.popStatus.regs = s.regs ∧ s.pushStatus.popStatus.flags = s.flags ∧ s.pushStatus.popStatus.sp = s.sp := by
  have top : s.pushStatus.stackTop = cat s.regs.a s.flags.toByte := stackTop_of_push s _ _ wf rfl rfl
  rw [State.popStatus_regs, State.popStatus_flags, top, hi_cat, lo_cat, ofByte_toByte]
  exact ⟨rfl, rfl, sub_two_add_two s.sp⟩

/-- Settles O55: reading the pushed flag byte gives the flags, and so each flag its bit; a pop reads the two bytes of the stack
top. -/
theorem statusWordPushAndPop : Obligations.StatusWordPushAndPop := by
  refine fun s wf => ⟨⟨s.pushStatus, exec_eq .pushPsw s, ?_⟩, s.popStatus, exec_eq .popPsw s, ?_⟩
  · obtain ⟨high, low, sp, pc, elsewhere, regs, flags, control⟩ :=
      State.push16_advance_spec wf (cat s.regs.a s.flags.toByte)
    have bits : Flags.ofByte (s.pushStatus.readByte (s.sp - 2)) = s.flags :=
      (congrArg Flags.ofByte (low.trans (lo_cat _ _))).trans (ofByte_toByte s.flags)
    exact ⟨high.trans (hi_cat _ _), congrArg Flags.s bits, congrArg Flags.z bits, congrArg Flags.ac bits,
      congrArg Flags.p bits, congrArg Flags.cy bits, sp, pc, elsewhere, regs, flags, control,
      _, exec_eq .popPsw _, State.popStatus_pushStatus wf⟩
  · exact ⟨hi_cat _ _, sameRegsBut_set _ _ .a _ s.popStatus_regs, congrArg Flags.ofByte (lo_cat _ _), rfl, rfl,
      sameMemory_of_mem _ _ rfl, rfl, rfl, rfl, rfl⟩

/-- Settles O56: HL takes the two bytes at `sp`, which take the halves of HL, L and H. -/
theorem exchangeStackTop : Obligations.ExchangeStackTop := by
  refine fun s wf => ⟨s.exchangeTop, exec_eq .xthl s, ?_⟩
  obtain ⟨low, high, elsewhere⟩ := storesWord s s.exchangeTop s.sp s.regs.hl wf rfl
  rw [Regs.hl, lo_cat] at low
  rw [Regs.hl, hi_cat] at high
  exact ⟨low, high, elsewhere, setHl_cat _ _ _, rfl, rfl, rfl, rfl, rfl, rfl, rfl⟩

/-- Settles O57: the effect of each of the fifteen is the advance by one. -/
theorem noOperations : Obligations.NoOperations :=
  fun s => ⟨exec_eq .nop s, exec_eq .ei s, exec_eq .di s,
    fun slot => ⟨exec_instr _ s, encode_instr _, by cases slot <;> decide⟩⟩

/-- Settles O58: IN loads A with the free value and draws it from the counter. -/
theorem inputTakesOpenValue : Obligations.InputTakesOpenValue :=
  fun s port => ⟨s.input port, exec_eq (.inPort port) s, rfl, rfl, sameRegsBut_set _ _ .a _ rfl, rfl, rfl, rfl,
    sameMemory_of_mem _ _ rfl, rfl, rfl, rfl⟩

/-- Settles O59: the effect of OUT. -/
theorem outputOnlyRecordsEvent : Obligations.OutputOnlyRecordsEvent :=
  fun s port => exec_eq (.outPort port) s

end Sys2Proof.Machine
end
